-- ==== Sys2Proof/Word.lean ====
section
/-! DEFINITION. The word types of the block (spec/00_scope.md R6): bytes, 16-bit words and 32-bit pointer containers. -/

namespace Sys2Proof

/-- A byte: a CIA register, a byte of chip memory or of the track buffer. -/
abbrev Byte := BitVec 8

/-- A 16-bit word: "All register values are unsigned 16-bit unless a rule says otherwise" (R6). -/
abbrev Word := BitVec 16

/-- A 32-bit container: a DMA pointer (R80) or an MFM longword (R107). -/
abbrev Long := BitVec 32

end Sys2Proof
end

