-- ==== Sys2Proof/Syntax.lean ====
section
/-! DEFINITION. The rows of spec/opcode_table.json, one constructor each: the three copper instructions (R90 to R94), the
twenty-seven fixed colclock slots of the arbiter (R98), and the four blitter modes of `bltcon1` (R205, R23). -/

namespace Sys2Proof

/-- One row of the opcode table. The three groups are decoded from different words: a copper instruction from two 16-bit
words of chip memory, a slot from the 8-bit colclock of an arbitration tick, a blitter mode from the 16-bit `bltcon1`.
Operands are held as the assembler syntax of R112 writes them; bits an encoding ignores are kept in `unused`, so that no
bit of a word is lost. -/
inductive Instr where
  /-- MOVE (R92, R246): register offset `off` (even, below 0x200) and the value `data`; `unused` is bits 15..9 of the first word. -/
  | move (unused : BitVec 7) (off data : Word)
  /-- WAIT (R93, R250): vertical and horizontal target, override bit, vertical and horizontal enable mask (`hp`, `he` even). -/
  | wait (vp hp : Byte) (bfd : Bool) (ve : BitVec 7) (he : Byte)
  /-- SKIP (R93, R251): the operands of WAIT. -/
  | skip (vp hp : Byte) (bfd : Bool) (ve : BitVec 7) (he : Byte)
  /-- SLOT_REFRESH0: memory refresh, colclock 0xE2 (R126). -/
  | slotRefresh0
  /-- SLOT_REFRESH1: memory refresh, colclock 0x01 (R126). -/
  | slotRefresh1
  /-- SLOT_REFRESH2: memory refresh, colclock 0x03 (R126). -/
  | slotRefresh2
  /-- SLOT_REFRESH3: memory refresh, colclock 0x05 (R126). -/
  | slotRefresh3
  /-- SLOT_DISK0: disk DMA, colclock 0x07 (R127). -/
  | slotDisk0
  /-- SLOT_DISK1: disk DMA, colclock 0x09 (R127). -/
  | slotDisk1
  /-- SLOT_DISK2: disk DMA, colclock 0x0B (R127). -/
  | slotDisk2
  /-- SLOT_AUD0: audio channel 0, colclock 0x0D (R128). -/
  | slotAud0
  /-- SLOT_AUD1: audio channel 1, colclock 0x0F (R128). -/
  | slotAud1
  /-- SLOT_AUD2: audio channel 2, colclock 0x11 (R128). -/
  | slotAud2
  /-- SLOT_AUD3: audio channel 3, colclock 0x13 (R128). -/
  | slotAud3
  /-- SLOT_SPR0_W0: sprite 0, word 0, colclock 0x15 (R130). -/
  | slotSpr0W0
  /-- SLOT_SPR0_W1: sprite 0, word 1, colclock 0x17 (R130). -/
  | slotSpr0W1
  /-- SLOT_SPR1_W0: sprite 1, word 0, colclock 0x19 (R130). -/
  | slotSpr1W0
  /-- SLOT_SPR1_W1: sprite 1, word 1, colclock 0x1B (R130). -/
  | slotSpr1W1
  /-- SLOT_SPR2_W0: sprite 2, word 0, colclock 0x1D (R130). -/
  | slotSpr2W0
  /-- SLOT_SPR2_W1: sprite 2, word 1, colclock 0x1F (R130). -/
  | slotSpr2W1
  /-- SLOT_SPR3_W0: sprite 3, word 0, colclock 0x21 (R130). -/
  | slotSpr3W0
  /-- SLOT_SPR3_W1: sprite 3, word 1, colclock 0x23 (R130). -/
  | slotSpr3W1
  /-- SLOT_SPR4_W0: sprite 4, word 0, colclock 0x25 (R130). -/
  | slotSpr4W0
  /-- SLOT_SPR4_W1: sprite 4, word 1, colclock 0x27 (R130). -/
  | slotSpr4W1
  /-- SLOT_SPR5_W0: sprite 5, word 0, colclock 0x29 (R130). -/
  | slotSpr5W0
  /-- SLOT_SPR5_W1: sprite 5, word 1, colclock 0x2B (R130). -/
  | slotSpr5W1
  /-- SLOT_SPR6_W0: sprite 6, word 0, colclock 0x2D (R130). -/
  | slotSpr6W0
  /-- SLOT_SPR6_W1: sprite 6, word 1, colclock 0x2F (R130). -/
  | slotSpr6W1
  /-- SLOT_SPR7_W0: sprite 7, word 0, colclock 0x31 (R130). -/
  | slotSpr7W0
  /-- SLOT_SPR7_W1: sprite 7, word 1, colclock 0x33 (R130). -/
  | slotSpr7W1
  /-- BLT_AREA (R211): area mode without fill; `unused` is bits 11..5 of `bltcon1`. -/
  | bltArea (bsh : BitVec 4) (unused : BitVec 7) (fci desc : Bool)
  /-- BLT_FILL_INCLUSIVE (R213): area mode with inclusive fill. -/
  | bltFillInclusive (bsh : BitVec 4) (unused : BitVec 7) (fci desc : Bool)
  /-- BLT_FILL_EXCLUSIVE (R213): area mode with exclusive fill, whatever `ife` is (D22). -/
  | bltFillExclusive (bsh : BitVec 4) (unused : BitVec 7) (ife fci desc : Bool)
  /-- BLT_LINE (R215): line mode; `unusedHi` is bits 11..7, `unusedLo` bit 5 of `bltcon1`. -/
  | bltLine (bsh : BitVec 4) (unusedHi : BitVec 5) (sign unusedLo sud sul aul sing : Bool)
deriving DecidableEq, Repr

end Sys2Proof
end

