-- ==== Sys2Proof/WellFormed.lean ====
section
/-! DEFINITION. When an instruction is one that an encoding stands for. The widths of the fields are in their types; what is
left to check is that the fields written with a bit 0 that the encoding uses as a selector have that bit clear (R92, R93). -/

namespace Sys2Proof

/-- The register offset of a MOVE is even and below 0x200: `off = w1 & 0x1FE` (R92, R94). -/
def moveOffsetOk (off : Word) : Bool := off &&& 0x01FE = off

/-- The horizontal target of a WAIT or SKIP is even: `hp = w1 & 0xFE` (R93). -/
def horizontalTargetOk (hp : Byte) : Bool := hp &&& 0xFE = hp

/-- The horizontal enable mask of a WAIT or SKIP is even: bit 0 of the second word selects WAIT or SKIP (R93). -/
def horizontalMaskOk (he : Byte) : Bool := he &&& 0xFE = he

/-- An instruction that some word of its encoding stands for. -/
def Instr.wf : Instr → Bool
  | .move _ off _ => moveOffsetOk off
  | .wait _ hp _ _ he => horizontalTargetOk hp && horizontalMaskOk he
  | .skip _ hp _ _ he => horizontalTargetOk hp && horizontalMaskOk he
  | .slotRefresh0 => true
  | .slotRefresh1 => true
  | .slotRefresh2 => true
  | .slotRefresh3 => true
  | .slotDisk0 => true
  | .slotDisk1 => true
  | .slotDisk2 => true
  | .slotAud0 => true
  | .slotAud1 => true
  | .slotAud2 => true
  | .slotAud3 => true
  | .slotSpr0W0 => true
  | .slotSpr0W1 => true
  | .slotSpr1W0 => true
  | .slotSpr1W1 => true
  | .slotSpr2W0 => true
  | .slotSpr2W1 => true
  | .slotSpr3W0 => true
  | .slotSpr3W1 => true
  | .slotSpr4W0 => true
  | .slotSpr4W1 => true
  | .slotSpr5W0 => true
  | .slotSpr5W1 => true
  | .slotSpr6W0 => true
  | .slotSpr6W1 => true
  | .slotSpr7W0 => true
  | .slotSpr7W1 => true
  | .bltArea _ _ _ _ => true
  | .bltFillInclusive _ _ _ _ => true
  | .bltFillExclusive _ _ _ _ _ => true
  | .bltLine _ _ _ _ _ _ _ _ => true

end Sys2Proof
end

