-- ==== Sys2Proof/Decode.lean ====
section
/-! DEFINITION. Decoding of the three kinds of word the block decodes (spec/30_encoding.md), total on any bytes, and the
encoder beside it. -/

namespace Sys2Proof

/-- Why bytes are no row of the table. -/
inductive DecodeError where
  /-- A colclock that is no consumer's fixed slot (R98): consumers 4, 6 and 7 compete for it. -/
  | noFixedSlot (cc : Byte)
  /-- A row's word has 1 byte (a colclock), 2 bytes (`bltcon1`) or 4 bytes (a copper instruction, R90); no other length has a meaning. -/
  | badLength (n : Nat)
deriving DecidableEq, Repr

/-! ### Copper instructions (R90 to R94) -/

/-- MOVE from its two words (R92, R94). -/
def moveOf (w1 w2 : Word) : Instr := .move (w1.extractLsb' 9 7) (w1 &&& 0x01FE) w2

/-- WAIT from its two words (R93). -/
def waitOf (w1 w2 : Word) : Instr :=
  .wait (w1.extractLsb' 8 8) (w1.extractLsb' 0 8 &&& 0xFE) (w2.getLsbD 15) (w2.extractLsb' 8 7) (w2.extractLsb' 0 8 &&& 0xFE)

/-- SKIP from its two words (R93). -/
def skipOf (w1 w2 : Word) : Instr :=
  .skip (w1.extractLsb' 8 8) (w1.extractLsb' 0 8 &&& 0xFE) (w2.getLsbD 15) (w2.extractLsb' 8 7) (w2.extractLsb' 0 8 &&& 0xFE)

/-- Copper decoding is total (R91): the low bit of the first word separates MOVE from WAIT and SKIP, the low bit of the
second word separates WAIT from SKIP. -/
def decodeCopper (w1 w2 : Word) : Instr :=
  if w1.getLsbD 0 = false then moveOf w1 w2
  else if w2.getLsbD 0 = false then waitOf w1 w2
  else skipOf w1 w2

/-! ### The fixed slot map (R98) -/

/-- Refresh, disk and audio colclocks. -/
def slotRowsLow : List (Byte × Instr) :=
  [(0xE2, .slotRefresh0),
   (0x01, .slotRefresh1),
   (0x03, .slotRefresh2),
   (0x05, .slotRefresh3),
   (0x07, .slotDisk0),
   (0x09, .slotDisk1),
   (0x0B, .slotDisk2),
   (0x0D, .slotAud0),
   (0x0F, .slotAud1),
   (0x11, .slotAud2),
   (0x13, .slotAud3)]

/-- Sprite colclocks of sprites 0 to 3. -/
def slotRowsSprLow : List (Byte × Instr) :=
  [(0x15, .slotSpr0W0),
   (0x17, .slotSpr0W1),
   (0x19, .slotSpr1W0),
   (0x1B, .slotSpr1W1),
   (0x1D, .slotSpr2W0),
   (0x1F, .slotSpr2W1),
   (0x21, .slotSpr3W0),
   (0x23, .slotSpr3W1)]

/-- Sprite colclocks of sprites 4 to 7. -/
def slotRowsSprHigh : List (Byte × Instr) :=
  [(0x25, .slotSpr4W0),
   (0x27, .slotSpr4W1),
   (0x29, .slotSpr5W0),
   (0x2B, .slotSpr5W1),
   (0x2D, .slotSpr6W0),
   (0x2F, .slotSpr6W1),
   (0x31, .slotSpr7W0),
   (0x33, .slotSpr7W1)]

/-- The slot map of R98: colclock and the fixed slot there. -/
def slotRows : List (Byte × Instr) := slotRowsLow ++ slotRowsSprLow ++ slotRowsSprHigh

/-- The row of a list of slots whose colclock is `cc`. -/
def findSlot (cc : Byte) : List (Byte × Instr) → Option Instr
  | [] => none
  | (k, i) :: rest => if k = cc then some i else findSlot cc rest

/-- The fixed slot at a colclock, if there is one (R98). -/
def decodeSlot (cc : Byte) : Option Instr := findSlot cc slotRows

/-! ### The blitter mode (R205, R23) -/

/-- The mode `bltcon1` selects: bit 0 LINE; in area mode bit 4 EFE wins over bit 3 IFE (D22). -/
def decodeBlitMode (c : Word) : Instr :=
  if c.getLsbD 0 then
    .bltLine (c.extractLsb' 12 4) (c.extractLsb' 7 5) (c.getLsbD 6) (c.getLsbD 5) (c.getLsbD 4) (c.getLsbD 3) (c.getLsbD 2) (c.getLsbD 1)
  else if c.getLsbD 4 then
    .bltFillExclusive (c.extractLsb' 12 4) (c.extractLsb' 5 7) (c.getLsbD 3) (c.getLsbD 2) (c.getLsbD 1)
  else if c.getLsbD 3 then
    .bltFillInclusive (c.extractLsb' 12 4) (c.extractLsb' 5 7) (c.getLsbD 2) (c.getLsbD 1)
  else
    .bltArea (c.extractLsb' 12 4) (c.extractLsb' 5 7) (c.getLsbD 2) (c.getLsbD 1)

/-! ### Bytes as the hardware stores them -/

/-- A word from its two bytes, high byte first (R62). -/
def wordOfBytes (hi lo : Byte) : Word := hi ++ lo

/-- Decode the bytes of one row, the lowest address first; every other byte string is rejected by name. -/
def decode : List Byte → Except DecodeError Instr
  | [cc] => match decodeSlot cc with
    | some i => .ok i
    | none => .error (.noFixedSlot cc)
  | [b1, b0] => .ok (decodeBlitMode (wordOfBytes b1 b0))
  | [b3, b2, b1, b0] => .ok (decodeCopper (wordOfBytes b3 b2) (wordOfBytes b1 b0))
  | bytes => .error (.badLength bytes.length)

/-- The bytes of a table word of `nbits` bits. The table numbers a copper instruction's FIRST word 31..16 and its second
15..0 (its `format` column), so the bytes in address order are the number's bytes from the top down. -/
def tableBytes (nbits w : Nat) : List Byte :=
  if nbits = 8 then [BitVec.ofNat 8 w]
  else if nbits = 16 then [BitVec.ofNat 8 (w / 256), BitVec.ofNat 8 w]
  else if nbits = 32 then
    [BitVec.ofNat 8 (w / 16777216), BitVec.ofNat 8 (w / 65536), BitVec.ofNat 8 (w / 256), BitVec.ofNat 8 w]
  else []

/-- What the decoder reads from a word numbered as spec/opcode_table.json numbers it. -/
def decodeTableWord (nbits w : Nat) : Option Instr :=
  match decode (tableBytes nbits w) with
  | .ok i => some i
  | .error _ => none

/-! ### The encoder -/

/-- A 16-bit word's bytes, high byte first (R62). -/
def bytesOfWord (w : Word) : List Byte := [w.extractLsb' 8 8, w.extractLsb' 0 8]

/-- The first word of a MOVE (R92). -/
def moveWord (unused : BitVec 7) (off : Word) : Word := (unused ++ (0 : BitVec 9)) ||| off

/-- The first word of a WAIT or SKIP: target and selector bit 1 (R93). -/
def beamTargetWord (vp hp : Byte) : Word := vp ++ (hp ||| 1)

/-- The second word of a WAIT or SKIP: override bit, masks and the selector `sel` (R93). -/
def beamMaskWord (bfd : Bool) (ve : BitVec 7) (he : Byte) (sel : Bool) : Word :=
  (BitVec.ofBool bfd ++ ve) ++ (he ||| (if sel then 1 else 0))

/-- `bltcon1` of an area mode (R23): `efe`, `ife` are the two fill bits. -/
def areaModeWord (bsh : BitVec 4) (unused : BitVec 7) (efe ife fci desc : Bool) : Word :=
  bsh ++ unused ++ BitVec.ofBool efe ++ BitVec.ofBool ife ++ BitVec.ofBool fci ++ BitVec.ofBool desc ++ (0 : BitVec 1)

/-- `bltcon1` of line mode (R23). -/
def lineModeWord (bsh : BitVec 4) (unusedHi : BitVec 5) (sign unusedLo sud sul aul sing : Bool) : Word :=
  bsh ++ unusedHi ++ BitVec.ofBool sign ++ BitVec.ofBool unusedLo ++ BitVec.ofBool sud ++ BitVec.ofBool sul
    ++ BitVec.ofBool aul ++ BitVec.ofBool sing ++ (1 : BitVec 1)

/-- The bytes of an instruction, the lowest address first (R92, R93, R98, R23). -/
def encode : Instr → List Byte
  | .move unused off data => bytesOfWord (moveWord unused off) ++ bytesOfWord data
  | .wait vp hp bfd ve he => bytesOfWord (beamTargetWord vp hp) ++ bytesOfWord (beamMaskWord bfd ve he false)
  | .skip vp hp bfd ve he => bytesOfWord (beamTargetWord vp hp) ++ bytesOfWord (beamMaskWord bfd ve he true)
  | .slotRefresh0 => [0xE2]
  | .slotRefresh1 => [0x01]
  | .slotRefresh2 => [0x03]
  | .slotRefresh3 => [0x05]
  | .slotDisk0 => [0x07]
  | .slotDisk1 => [0x09]
  | .slotDisk2 => [0x0B]
  | .slotAud0 => [0x0D]
  | .slotAud1 => [0x0F]
  | .slotAud2 => [0x11]
  | .slotAud3 => [0x13]
  | .slotSpr0W0 => [0x15]
  | .slotSpr0W1 => [0x17]
  | .slotSpr1W0 => [0x19]
  | .slotSpr1W1 => [0x1B]
  | .slotSpr2W0 => [0x1D]
  | .slotSpr2W1 => [0x1F]
  | .slotSpr3W0 => [0x21]
  | .slotSpr3W1 => [0x23]
  | .slotSpr4W0 => [0x25]
  | .slotSpr4W1 => [0x27]
  | .slotSpr5W0 => [0x29]
  | .slotSpr5W1 => [0x2B]
  | .slotSpr6W0 => [0x2D]
  | .slotSpr6W1 => [0x2F]
  | .slotSpr7W0 => [0x31]
  | .slotSpr7W1 => [0x33]
  | .bltArea bsh unused fci desc => bytesOfWord (areaModeWord bsh unused false false fci desc)
  | .bltFillInclusive bsh unused fci desc => bytesOfWord (areaModeWord bsh unused false true fci desc)
  | .bltFillExclusive bsh unused ife fci desc => bytesOfWord (areaModeWord bsh unused true ife fci desc)
  | .bltLine bsh unusedHi sign unusedLo sud sul aul sing =>
      bytesOfWord (lineModeWord bsh unusedHi sign unusedLo sud sul aul sing)

end Sys2Proof
end

