-- ==== Sys2Proof/Config.lean ====
section
/-! DEFINITION. What the source fixes by name (constants) and what it leaves OPEN (R4, spec/92_eei_decisions.md): every open
parameter is a field of `Config`, held as plain data in the state and never changed, so that a statement about all states is
a statement about every value of the parameters. `Config.default` holds the defaults of R4. -/

namespace Sys2Proof

/-! ### Constants with a value in R4 -/

/-- `BLT_DONE_IRQ_DELAY`: "delayed (≈10-tick)" (R4, D40). -/
def bltDoneIrqDelay : Byte := 10

/-- `CIA_DIVIDER`: "1 CIA tick per 10 main ticks" (R4, R351). -/
def ciaDivider : BitVec 4 := 10

/-- `AUD_PER_MIN`: the "hardware floor (113)" of the audio period (R4, R322). -/
def audPerMin : Word := 113

/-- `CPU_BLOCK_MAX`: "saturating 0–3 counter" (R4, R141). -/
def cpuBlockMax : BitVec 2 := 3

/-- `COP_WAKE_AHEAD`: the comparison looks 2 ticks, one colclock, ahead (R4, R249). -/
def copWakeAhead : Word := 2

/-- `SECTORS_PER_TRACK`, `SECTOR_BYTES`, `HEADS`, `CYLINDERS` (R4, R111). -/
def sectorsPerTrack : Nat := 11
/-- Bytes in a sector (R111). -/
def sectorBytes : Nat := 512
/-- Heads of a drive (R111). -/
def heads : Nat := 2
/-- Cylinders of a flat image (R111). -/
def cylinders : Nat := 80

/-- MFM bytes of one sector frame (R108). -/
def sectorMfmBytes : Nat := 1088

/-! ### Interrupt request bits (R17, R371) -/

/-- DSKBLK: disk transfer-length exhaustion. -/
def irqDskblk : Fin 14 := 1
/-- PORTS: the interrupt line of CIA instance A. -/
def irqPorts : Fin 14 := 3
/-- VERTB: start of field. -/
def irqVertb : Fin 14 := 5
/-- BLIT: blitter done. -/
def irqBlit : Fin 14 := 6
/-- DSKSYN: disk sync match. -/
def irqDsksyn : Fin 14 := 12
/-- EXTER: the interrupt line of CIA instance B. -/
def irqExter : Fin 14 := 13
/-- AUD0 + n: loop restart of audio channel n. -/
def irqAud (n : Fin 4) : Fin 14 := ⟨7 + n.val, by omega⟩

/-! ### Enable bits of `dmacon` (R15) -/

/-- DMAEN, the master enable. -/
def dmaMaster : Nat := 9
/-- BLTPRI, "blit-hog". -/
def dmaBltpri : Nat := 10
/-- BPLEN. -/
def dmaBpl : Nat := 8
/-- COPEN. -/
def dmaCop : Nat := 7
/-- BLTEN. -/
def dmaBlt : Nat := 6
/-- SPREN. -/
def dmaSpr : Nat := 5
/-- DSKEN. -/
def dmaDsk : Nat := 4
/-- AUDnEN. -/
def dmaAud (n : Fin 4) : Nat := n.val

/-! ### Types of the parameters -/

/-- The four channels of the blitter (R23). -/
inductive BltChan where
  | a | b | c | d
deriving DecidableEq, Repr

/-- One phase of the blitter's repeating pattern (R102). -/
inductive BltPhase where
  | a | b | c | d | idle
deriving DecidableEq, Repr

/-- The named registers of the chip register file (R32). -/
inductive Reg where
  | dmaconr | vposr | vhposr | adkconr | dskbytr | intenar | intreqr
  | dskpth | dskptl | dsklen | copcon
  | bltcon0 | bltcon1 | bltafwm | bltalwm
  | bltpth (x : BltChan) | bltptl (x : BltChan) | bltsize | bltmod (x : BltChan)
  | bltcdat | bltbdat | bltadat | dsksync
  | cop1lch | cop1lcl | cop2lch | cop2lcl | copjmp1 | copjmp2
  | diwstrt | diwstop | ddfstrt | ddfstop
  | dmacon | intena | intreq | adkcon
  | audlch (n : Fin 4) | audlcl (n : Fin 4) | audlen (n : Fin 4) | audper (n : Fin 4) | audvol (n : Fin 4) | auddat (n : Fin 4)
  | bplpth (p : Fin 6) | bplptl (p : Fin 6)
  | bplcon0 | bplcon1 | bplcon2 | bpl1mod | bpl2mod
  | bpldat (p : Fin 6)
  | sprpth (n : Fin 8) | sprptl (n : Fin 8) | sprpos (n : Fin 8) | sprctl (n : Fin 8) | sprdata (n : Fin 8) | sprdatb (n : Fin 8)
  | color (i : Fin 32)
deriving DecidableEq, Repr

/-- `AUD_FILTER` with its output function, an open total function (R4, R330, U18; log 9). The default has the first form. -/
inductive AudFilter where
  /-- `y' = y + floor(a * (x - y))` on integers with `a = num / den`, and `out(y) = y`. -/
  | onePole (num den : Nat)
  /-- Any other arithmetic: `Config.freeAudFilter` and `Config.freeAudOut`, its states and samples numbered by integers. -/
  | other
deriving DecidableEq, Repr

/-- One step of a filter whose arithmetic nothing is known of: a free value (R330, U18; log 9). -/
opaque Config.freeAudFilter : Int → Int → Int

/-- The output of a filter whose arithmetic nothing is known of: a free value (R330, U18; log 9). -/
opaque Config.freeAudOut : Int → Int

/-- The open parameters of R4. A plane is numbered 1..6 and 0 means "no fetch" (R103). -/
structure Config where
  /-- `LINE_TICKS`, ticks per line (D2). -/
  lineTicks : Nat
  /-- `LINES_LONG` (D3). -/
  linesLong : Nat
  /-- `LINES_SHORT` (D3). -/
  linesShort : Nat
  /-- `CHIP_ADDR_MASK` (D4). -/
  chipAddrMask : Long
  /-- `CHIP_MEM_BYTES` (D4). -/
  chipMemBytes : Nat
  /-- The colclocks at which `COPPER_SLOT_OK` does NOT hold (D11): the predicate as data. -/
  copperBlocked : List Nat
  /-- `BPL_SCHED_LORES` (R103). -/
  schedLores : Vector (Fin 7) 8
  /-- `BPL_SCHED_HIRES` (R103). -/
  schedHires : Vector (Fin 7) 4
  /-- `DDF_MIN`, `DDF_MAX` (R165). -/
  ddfMin : Word
  ddfMax : Word
  /-- `BPL_LATCH_DELAY(scroll, hires)` by scroll value, low and high resolution (R172). -/
  latchDelayLores : Vector Byte 16
  latchDelayHires : Vector Byte 16
  /-- `BLT_START_DELAY`, uncertain in the source (U7). -/
  bltStartDelay : BitVec 3
  /-- `BLT_CYCLE_TABLE`, indexed by the bits useA, useB, useC, useD, fill from the most significant down (R102). -/
  cycleTable : Vector (List BltPhase) 32
  /-- `BLT_LINE_PATTERN` (R102). -/
  linePattern : List BltPhase
  /-- `IPL_LATENCY`, uncertain in the source (U7). -/
  iplLatency : BitVec 2
  /-- `IPL_TABLE` (R375). -/
  iplTable : Vector (BitVec 3) 14
  /-- `IRQ_DELAY` of the sources that have one (R371). -/
  irqDelayDskblk : Byte
  irqDelayVertb : Byte
  irqDelayAudio : Byte
  irqDelayDsksyn : Byte
  /-- `COP_PROTECT_SAFE`, `COP_PROTECT_DANGER` (R247). -/
  copProtectSafe : Word
  copProtectDanger : Word
  /-- `AUD_FILTER` (R330, U18). -/
  audFilter : AudFilter
  /-- `AUD_MIX_TICKS`, the two instants of a line (R330). -/
  audMixTick1 : Nat
  audMixTick2 : Nat
  /-- `DSKBYT_SYNC_HOLD`, uncertain in the source (U7). -/
  dskbytSyncHold : BitVec 4
  /-- `MOTOR_DELAY_TICKS` (D38). -/
  motorDelayTicks : Long
  /-- `REVOLUTION_TICKS` (D38). -/
  revolutionTicks : Long
  /-- `MAX_CYLINDER` (D38). -/
  maxCylinder : Byte
  /-- `MFM_TRACK_BYTES` (D37). -/
  mfmTrackBytes : Nat
  /-- `SECTOR_CHECKSUM_FIRST` (D37). -/
  sectorChecksumFirst : Bool
  /-- `NUM_DRIVES` (D38). -/
  numDrives : Nat
  /-- `REGMAP`: offset and register (R32, D42). -/
  regmap : List (Word × Reg)
  /-- `REG_FILLER` (D43). -/
  regFiller : Word
  /-- `CUSTOM_BASE`, `CIAA_BASE`, `CIAB_BASE`, each with the size of its own window (R71, R352). -/
  customBase : Nat
  customSize : Nat
  ciaaBase : Nat
  ciaaSize : Nat
  ciabBase : Nat
  ciabSize : Nat
  /-- The ROM-with-overlay handler of the memory subsystem (R61, R72): its window, the bytes the overlay covers at the bottom of
  the CPU's address space, and its contents by offset, in the form of chip memory (log 1, 8). -/
  romBase : Nat
  romSize : Nat
  overlaySize : Nat
  rom : List (Nat × Byte)
  /-- `FB_WIDTH`, `FB_HEIGHT`: the host's frame buffer (D54), read by no rule. -/
  fbWidth : Nat
  fbHeight : Nat
deriving DecidableEq, Repr

/-! ### The default values -/

/-- The index of `BLT_CYCLE_TABLE`. -/
def cycleIndex (useA useB useC useD fill : Bool) : Fin 32 :=
  ⟨useA.toNat * 16 + useB.toNat * 8 + useC.toNat * 4 + useD.toNat * 2 + fill.toNat, by
    cases useA <;> cases useB <;> cases useC <;> cases useD <;> cases fill <;> decide⟩

/-- The default pattern of D20: the enabled channels in the order A, B, C, D, then one idle phase if fill is on. -/
def defaultCycle (useA useB useC useD fill : Bool) : List BltPhase :=
  let p := (if useA then [.a] else []) ++ (if useB then [.b] else []) ++ (if useC then [.c] else [])
    ++ (if useD then [.d] else []) ++ (if fill then [.idle] else [])
  if p.isEmpty then [.idle] else p

/-- The default cycle table (D20). -/
def defaultCycleTable : Vector (List BltPhase) 32 :=
  Vector.ofFn fun i =>
    defaultCycle (i.val.testBit 4) (i.val.testBit 3) (i.val.testBit 2) (i.val.testBit 1) (i.val.testBit 0)

/-- Read registers and the disk and copper control registers of R32. -/
def regmapControl : List (Word × Reg) :=
  [(0x002, .dmaconr), (0x004, .vposr), (0x006, .vhposr), (0x010, .adkconr), (0x01A, .dskbytr), (0x01C, .intenar),
   (0x01E, .intreqr), (0x020, .dskpth), (0x022, .dskptl), (0x024, .dsklen), (0x02E, .copcon), (0x07E, .dsksync)]

/-- Blitter registers of R32. -/
def regmapBlitter : List (Word × Reg) :=
  [(0x040, .bltcon0), (0x042, .bltcon1), (0x044, .bltafwm), (0x046, .bltalwm), (0x048, .bltpth .c), (0x04A, .bltptl .c),
   (0x04C, .bltpth .b), (0x04E, .bltptl .b), (0x050, .bltpth .a), (0x052, .bltptl .a), (0x054, .bltpth .d),
   (0x056, .bltptl .d), (0x058, .bltsize), (0x060, .bltmod .c), (0x062, .bltmod .b), (0x064, .bltmod .a),
   (0x066, .bltmod .d), (0x070, .bltcdat), (0x072, .bltbdat), (0x074, .bltadat)]

/-- Copper, display window and set/clear registers of R32. -/
def regmapCopper : List (Word × Reg) :=
  [(0x080, .cop1lch), (0x082, .cop1lcl), (0x084, .cop2lch), (0x086, .cop2lcl), (0x088, .copjmp1), (0x08A, .copjmp2),
   (0x08E, .diwstrt), (0x090, .diwstop), (0x092, .ddfstrt), (0x094, .ddfstop), (0x096, .dmacon), (0x09A, .intena),
   (0x09C, .intreq), (0x09E, .adkcon)]

/-- The registers of audio channel n (R32). -/
def regmapAudio (n : Fin 4) : List (Word × Reg) :=
  let o : Word := 0x0A0 + BitVec.ofNat 16 (0x10 * n.val)
  [(o, .audlch n), (o + 2, .audlcl n), (o + 4, .audlen n), (o + 6, .audper n), (o + 8, .audvol n), (o + 10, .auddat n)]

/-- The pointer and data registers of plane p + 1 (R32). -/
def regmapPlane (p : Fin 6) : List (Word × Reg) :=
  let o : Word := 0x0E0 + BitVec.ofNat 16 (4 * p.val)
  [(o, .bplpth p), (o + 2, .bplptl p), (0x110 + BitVec.ofNat 16 (2 * p.val), .bpldat p)]

/-- Bitplane control registers of R32. -/
def regmapBplcon : List (Word × Reg) :=
  [(0x100, .bplcon0), (0x102, .bplcon1), (0x104, .bplcon2), (0x108, .bpl1mod), (0x10A, .bpl2mod)]

/-- The registers of sprite n (R32). -/
def regmapSprite (n : Fin 8) : List (Word × Reg) :=
  let o : Word := 0x120 + BitVec.ofNat 16 (4 * n.val)
  let q : Word := 0x140 + BitVec.ofNat 16 (8 * n.val)
  [(o, .sprpth n), (o + 2, .sprptl n), (q, .sprpos n), (q + 2, .sprctl n), (q + 4, .sprdata n), (q + 6, .sprdatb n)]

/-- The colour registers of R32. -/
def regmapColor : List (Word × Reg) :=
  List.ofFn fun i : Fin 32 => (0x180 + BitVec.ofNat 16 (2 * i.val), .color i)

/-- The default `REGMAP` of R32. -/
def defaultRegmap : List (Word × Reg) :=
  regmapControl ++ regmapBlitter ++ regmapCopper
    ++ regmapAudio 0 ++ regmapAudio 1 ++ regmapAudio 2 ++ regmapAudio 3
    ++ regmapPlane 0 ++ regmapPlane 1 ++ regmapPlane 2 ++ regmapPlane 3 ++ regmapPlane 4 ++ regmapPlane 5
    ++ regmapBplcon
    ++ regmapSprite 0 ++ regmapSprite 1 ++ regmapSprite 2 ++ regmapSprite 3
    ++ regmapSprite 4 ++ regmapSprite 5 ++ regmapSprite 6 ++ regmapSprite 7
    ++ regmapColor

/-- The defaults of R4. Where R4 gives no default (DESIGN CHOICE, log 2): `motorDelayTicks`, `revolutionTicks`, `regFiller`,
the custom window, the window sizes, the ROM with its overlay and the frame buffer's size. -/
def Config.default : Config where
  lineTicks := 454
  linesLong := 313
  linesShort := 312
  chipAddrMask := 0x1FFFFE
  chipMemBytes := 0x80000
  copperBlocked := []
  schedLores := #v[0, 4, 6, 2, 0, 3, 5, 1]
  schedHires := #v[4, 2, 3, 1]
  ddfMin := 0x18
  ddfMax := 0xD8
  latchDelayLores := #v[0, 1, 2, 3, 4, 5, 6, 7, 8, 9, 10, 11, 12, 13, 14, 15]
  latchDelayHires := #v[0, 1, 2, 3, 4, 5, 6, 7, 8, 9, 10, 11, 12, 13, 14, 15]
  bltStartDelay := 2
  cycleTable := defaultCycleTable
  linePattern := [.idle, .c, .idle, .d]
  iplLatency := 2
  iplTable := #v[1, 1, 1, 2, 3, 3, 3, 4, 4, 4, 4, 5, 5, 6]
  irqDelayDskblk := 0
  irqDelayVertb := 0
  irqDelayAudio := 0
  irqDelayDsksyn := 0
  copProtectSafe := 0x80
  copProtectDanger := 0x40
  audFilter := .onePole 1 2
  audMixTick1 := 0
  audMixTick2 := 227
  dskbytSyncHold := 10
  motorDelayTicks := 1000
  revolutionTicks := 100000
  maxCylinder := 79
  mfmTrackBytes := 12668
  sectorChecksumFirst := false
  numDrives := 1
  regmap := defaultRegmap
  regFiller := 0xFFFF
  customBase := 0xDFF000
  customSize := 0x1000
  ciaaBase := 0xBFE001
  ciaaSize := 0x1000
  ciabBase := 0xBFD000
  ciabSize := 0x1000
  romBase := 0xFC0000
  romSize := 0x40000
  overlaySize := 0x40000
  rom := []
  fbWidth := 908
  fbHeight := 626

/-! ### The constraints of R4 -/

/-- Every list of distinct members. -/
def noRepeats {α : Type} [DecidableEq α] : List α → Bool
  | [] => true
  | x :: xs => decide (x ∉ xs) && noRepeats xs

/-- A pattern meets R102 for the channels in use: at most 16 entries, not empty, each enabled channel once, no other. -/
def cycleOk (p : List BltPhase) (useA useB useC useD : Bool) : Bool :=
  !p.isEmpty && p.length ≤ 16 && p.count .a == useA.toNat && p.count .b == useB.toNat && p.count .c == useC.toNat
    && p.count .d == useD.toNat

/-- All thirty-two rows of the cycle table meet R102. -/
def Config.cycleTableOk (k : Config) : Bool :=
  (List.range 32).all fun i => cycleOk (k.cycleTable.toList.getD i []) (i.testBit 4) (i.testBit 3) (i.testBit 2) (i.testBit 1)

/-- `REGMAP` is an injective table into the even offsets 0x000..0x1FE (R4). -/
def Config.regmapOk (k : Config) : Bool :=
  k.regmap.all (fun e => e.1 &&& 0x1FE = e.1) && noRepeats (k.regmap.map (·.1)) && noRepeats (k.regmap.map (·.2))

/-- Geometry of time, memory and media (R4; the upper bounds follow from the widths of `hpos`, `vpos` and `dsk_buf_pos`). -/
def Config.sizesOk (k : Config) : Bool :=
  k.lineTicks % 2 == 0 && 454 ≤ k.lineTicks && k.lineTicks ≤ 65536
    && k.linesLong == k.linesShort + 1 && 1 ≤ k.linesShort && k.linesLong ≤ 65535
    && !k.chipAddrMask.getLsbD 0 && k.chipMemBytes % 2 == 0 && k.chipMemBytes ≤ k.chipAddrMask.toNat + 2
    && k.mfmTrackBytes % 2 == 0 && sectorsPerTrack * sectorMfmBytes ≤ k.mfmTrackBytes && k.mfmTrackBytes ≤ 65536
    && 1 ≤ k.numDrives && k.numDrives ≤ 4 && 79 ≤ k.maxCylinder.toNat && k.revolutionTicks != 0

/-- The filter's shape: `0 < a <= 1` (R330); nothing is known of another arithmetic. -/
def AudFilter.ok : AudFilter → Bool
  | .onePole num den => 1 ≤ num && num ≤ den
  | .other => true

/-- The tables (R103, R375, R102, R330, R247). -/
def Config.tablesOk (k : Config) : Bool :=
  k.schedLores.toList.getD 7 0 == 1 && k.schedHires.toList.getD 3 0 == 1
    && k.iplTable.toList.all (fun l => 1 ≤ l.toNat && l.toNat ≤ 6)
    && !k.linePattern.isEmpty && k.linePattern.length ≤ 16
    && k.audFilter.ok
    && k.copProtectDanger.toNat ≤ k.copProtectSafe.toNat

/-- The constraints R4 puts on the open parameters. -/
def Config.wf (k : Config) : Bool := k.sizesOk && k.tablesOk && k.cycleTableOk && k.regmapOk

end Sys2Proof
end

