-- ==== Sys2Proof/Machine/State.lean ====
section
/-! DEFINITION. Everything the spec gives the machine (spec/10_state.md), as plain data: the custom-chip aggregate (R10 to
R27), the drives (R28), the CIAs (R29), chip memory and the media (R60, R297), the open parameters (R4), the queue of the
host's calls the step reads, and the record the last step returned (R30). -/

namespace Sys2Proof.Machine

/-- Bytes by address: addresses strictly rising and no entry equal to `0`, which an unlisted address reads as (log 1). -/
abbrev Memory := List Host.Cell

/-! ### Stops -/

/-- `InternalFault(reason)` (R381): the machine has no successor state. The reason `BadState` of R381 has no constructor here:
every state enumerator is an inductive type, so it cannot occur. -/
inductive Fault where
  /-- A DMA pointer sum leaves 0 .. 2^32 - 1 (R80, U1). Raised by the pointer sums of every DMA consumer. Safe: the machine
  stops where the hardware may go on. -/
  | pointerOverflow
  /-- A DMA access at or above `CHIP_MEM_BYTES` (R63, U2). Raised by every DMA read and write. Safe. -/
  | chipAddressOutOfRange
  /-- The blitter's phase index lies outside the pattern its control registers select (R206, U4). Raised by the blitter's
  turn. Safe. -/
  | unreachableCycleEntry
deriving DecidableEq, Repr

/-- "refuse" of spec/93_implementation_defined.md: the run is outside the model. -/
inductive Refusal where
  /-- An instruction that has no meaning yet; raised by `exec` only. Safe. -/
  | notModelled (mnemonic : String)
  /-- U3: a write of the blitter's size register while the blitter is not `stopped`, or of another blitter register while
  `blt_busy = 1`. Raised by register writes. Safe. -/
  | blitterRegisterBusy
  /-- U6, R70: an 8-bit write to the register window. Raised by the host's custom writes. Safe. -/
  | customByteWrite
  /-- U6, R70: a 16-bit or 32-bit access at an odd offset of the register window. Raised by the host's custom accesses. Safe. -/
  | customOddAccess
  /-- U13, R82: the host touches the chip bus without a free cycle it asked for. Raised by the host's chip-bus accesses. Safe. -/
  | busContract
  /-- R64: a misaligned CPU access to chip memory or the ROM "belongs to the excluded CPU". Raised by the host's accesses to
  them. Safe. -/
  | cpuMisaligned
  /-- A CPU address in no window of this block (R61, R71): the rest of the CPU's space is the excluded memory subsystem's. Safe. -/
  | outsideWindows
  /-- A drive number that is not below `NUM_DRIVES` (R28). Raised by the host's media actions. Safe. -/
  | noSuchDrive
deriving DecidableEq, Repr

/-! ### Enumerations -/

/-- Who got the bus slot (R99), in priority order with `none` first. -/
inductive BusOwner where
  | none | refresh | disk | audio | bitplane | sprite | copper | blitter
deriving DecidableEq, Repr

/-- `blt_state` (R24, R200). -/
inductive BltState where
  | stopped | starting | running | final
deriving DecidableEq, Repr

/-- `cop_state` (R25, R240). -/
inductive CopState where
  | halted | vblank | readInst | needFreeCycle | wait | skip | jmpDelay1 | jmpDelay2
deriving DecidableEq, Repr

/-- `aud_state[n]` (R26, R320). -/
inductive AudState where
  | inactive | dmaStarting | dmaSamp1 | dmaSamp2
deriving DecidableEq, Repr

/-- `spr_dma_state[n]` (R22). -/
inductive SprDmaState where
  | idle | fetchCtl | fetchData
deriving DecidableEq, Repr

/-- The two CIA instances (R350). -/
inductive CiaId where
  | a | b
deriving DecidableEq, Repr

/-- Why a track written back to a sector image is refused (R299, U14). -/
inductive MfmError where
  | truncatedSector | headerChecksum | badFormatByte | foreignTrack | sectorOutOfRange | duplicateSector | dataChecksum
deriving DecidableEq, Repr

/-! ### The blocks of the aggregate -/

/-- The beam (R13). -/
structure Beam where
  hpos : Word
  vpos : Word
  lof : Bool
deriving DecidableEq, Repr

/-- Interrupt state (R17). -/
structure Irq where
  intena : BitVec 15
  intreq : BitVec 14
  /-- `irq_countdown[b]` -/
  countdown : Vector Byte 14
  iplCurrent : BitVec 3
  iplTarget : BitVec 3
  iplDelay : BitVec 2
deriving DecidableEq, Repr

/-- Bitplane registers and pipeline (R19, R20). Index `p` of a vector is plane `p + 1`. -/
structure Bitplane where
  con0 : Word
  con1 : Word
  con2 : Word
  pt : Vector Long 6
  mod1 : Word
  mod2 : Word
  dat : Vector Word 6
  diwstrt : Word
  diwstop : Word
  ddfstrt : Word
  ddfstop : Word
  shift : Vector Word 6
  pendingOdd : Bool
  pendingEven : Bool
  dueOdd : Byte
  dueEven : Byte
  /-- `bpl_mod_countdown[p]`: named by the source, used by no rule (R20, N9). -/
  modCountdown : Vector Byte 6
  ddfOpen : Bool
  ddfPos : Byte
  ddfLast : Bool
deriving DecidableEq, Repr

/-- One sprite (R22). `armed` and `active` are bit n of `spr_armed` and `spr_active`. -/
structure Sprite where
  pt : Long
  pos : Word
  ctl : Word
  data : Word
  datb : Word
  holdA : Word
  holdB : Word
  armed : Bool
  active : Bool
  dma : SprDmaState
deriving DecidableEq, Repr

/-- Blitter registers and sequencer (R23, R24, R14). -/
structure Blitter where
  con0 : Word
  con1 : Word
  afwm : Word
  alwm : Word
  apt : Long
  bpt : Long
  cpt : Long
  dpt : Long
  amod : Word
  bmod : Word
  cmod : Word
  dmod : Word
  adat : Word
  bdat : Word
  cdat : Word
  ddat : Word
  /-- `blt_width` -/
  width : BitVec 7
  /-- `blt_height` -/
  height : BitVec 11
  st : BltState
  startCount : BitVec 3
  phase : BitVec 4
  /-- `blt_w`, words still to do in the row -/
  w : BitVec 7
  /-- `blth`, rows (dots in line mode) still to do -/
  h : BitVec 11
  aold : Word
  bold : Word
  ahold : Word
  bhold : Word
  dpending : Bool
  dlast : Bool
  busy : Bool
  zero : Bool
  fillCarry : Bool
  dotThisLine : Bool
  sign : Bool
deriving DecidableEq, Repr

/-- The copper (R25, R12, R14). -/
structure Copper where
  st : CopState
  /-- `cop_pc` -/
  pc : Long
  ir1 : Word
  ir2 : Word
  haveIr1 : Bool
  skipNext : Bool
  /-- `cop_jmp_target`: `false` = `cop1lc`, `true` = `cop2lc` -/
  jmpTarget : Bool
  lc1 : Long
  lc2 : Long
  con : Word
deriving DecidableEq, Repr

/-- One audio channel (R26). -/
structure AudioChan where
  st : AudState
  lc : Long
  len : Word
  per : Word
  vol : BitVec 7
  dat : Word
  cur : Word
  ptr : Long
  wlen : Word
  percnt : Word
  dmareq : Bool
  /-- the 8-bit half-sample at the output, two's complement -/
  out : Byte
  /-- the filter's state; its zero is 0 (R330, log 9) -/
  filt : Int
deriving DecidableEq, Repr

/-- Disk transfer registers and the rotating track buffer (R27). -/
structure Disk where
  pt : Long
  len : Word
  prevEn : Bool
  active : Bool
  remaining : BitVec 14
  synced : Bool
  sync : Word
  /-- `dskbyt_hold` -/
  hold : BitVec 4
  /-- `dsk_buf`, byte by offset in the form of `Memory` -/
  buf : Memory
  bufPos : Word
  bufValid : Bool
deriving DecidableEq, Repr

/-- An inserted medium (R111, R297, R301): a flat sector image, and those tracks that hold raw MFM instead (type 1), by
track number `2 * cylinder + side`. -/
structure Medium where
  writeProtected : Bool
  image : Memory
  rawTracks : List (Nat × List Byte)
deriving DecidableEq, Repr

/-- One drive (R28). -/
structure Drive where
  motor : Bool
  spin : Long
  side : Bool
  /-- `drv_dir`: `false` = toward higher cylinders -/
  dir : Bool
  cyl : Byte
  index : Long
  media : Option Medium
deriving DecidableEq, Repr

/-- One CIA (R29). -/
structure Cia where
  pra : Byte
  prb : Byte
  ddra : Byte
  ddrb : Byte
  ta : Word
  tb : Word
  taLatch : Word
  tbLatch : Word
  cra : Byte
  crb : Byte
  tod : BitVec 24
  alarm : BitVec 24
  sdr : Byte
  icrData : BitVec 5
  icrMask : BitVec 5
  irq : Bool
deriving DecidableEq, Repr

/-! ### Outputs (R30, D54) -/

/-- One painted pixel: beam position, sub-pixel of the tick and ARGB32 colour (R184, R104). -/
structure Pixel where
  vpos : Word
  hpos : Word
  sub : Nat
  argb : Long
deriving DecidableEq, Repr

/-- The record a `step()` returns, and what else leaves the block in it. No rule reads it back. -/
structure StepOut where
  /-- `bus`, `dma_address`, `dma_value`, `free_cycle_flag`, `beam_position` of R30 -/
  bus : BusOwner
  dmaAddress : Long
  dmaValue : Word
  freeCycle : Bool
  beamV : Word
  beamH : Word
  /-- the pixels painted in the tick (R184), first sub-pixel first -/
  pixels : List Pixel
  /-- the stereo pair appended to the audio ring buffer (R330), left and right -/
  sample : Option (Int × Int)
  /-- the frame hand-off at a field start (R152); the Bool is "a scan-doubling pass runs" -/
  frame : Option Bool
  /-- what the host is told of a refused write-back (R288, R299) -/
  mediaError : Option MfmError
  /-- what a host read returned -/
  reply : Option Long
deriving DecidableEq, Repr

/-- An empty result record (R120, first line). -/
def StepOut.empty : StepOut where
  bus := .none
  dmaAddress := 0
  dmaValue := 0
  freeCycle := false
  beamV := 0
  beamH := 0
  pixels := []
  sample := .none
  frame := .none
  mediaError := .none
  reply := .none

/-! ### The host's calls -/

/-- Width of a CPU access. -/
inductive Width where
  | byte | word | long
deriving DecidableEq, Repr

/-- A call the host makes: one tick, or an action between two ticks (R82, R120, R297, R352, R377, R400). -/
inductive HostOp where
  /-- `step(cpu_wants_bus, current_pc)` -/
  | tick (cpuWantsBus : Bool) (currentPc : Long)
  /-- `reset()` (R400) -/
  | reset
  /-- a CPU read or write of the chip register window at byte offset `off` (R66, R67, R70) -/
  | customRead (width : Width) (off : Word)
  | customWrite (width : Width) (off : Word) (v : Long)
  /-- `CiaRead(i, r)`, `CiaWrite(i, r, v)` (R352) -/
  | ciaRead (i : CiaId) (r : BitVec 4)
  | ciaWrite (i : CiaId) (r : BitVec 4) (v : Byte)
  /-- a CPU access to chip memory that the memory subsystem has routed there (R60, R61) -/
  | chipRead (width : Width) (a : Long)
  | chipWrite (width : Width) (a : Long) (v : Long)
  /-- a CPU access by address, dispatched to the windows of this block (R61, R71) -/
  | cpuRead (width : Width) (a : Long)
  | cpuWrite (width : Width) (a : Long) (v : Long)
  /-- `current_ipl()` (R377) -/
  | currentIpl
  /-- insertion and removal of a medium (R297) -/
  | insertMedium (d : Fin 4) (m : Medium)
  | ejectMedium (d : Fin 4)
deriving DecidableEq, Repr

/-! ### The state -/

/-- The machine. -/
structure State where
  /-- the open parameters (R4); no step changes them -/
  cfg : Config
  /-- chip memory (R60) -/
  mem : Memory
  beam : Beam
  dmacon : Word
  irq : Irq
  cpuBlock : BitVec 2
  bpl : Bitplane
  color : Vector (BitVec 12) 32
  spr : Vector Sprite 8
  blt : Blitter
  cop : Copper
  aud : Vector AudioChan 4
  adkcon : BitVec 15
  dsk : Disk
  /-- drive `d` exists when `d < NUM_DRIVES` (R28) -/
  drives : Vector Drive 4
  ciaA : Cia
  ciaB : Cia
  ciaDiv : BitVec 4
  /-- the model's own: the host's calls not made yet, the next one first -/
  host : List HostOp
  /-- the record of the last step (R30) -/
  out : StepOut
  /-- the model's own: the last tick was a free cycle the CPU had asked for and no chip-bus access was made since (R82) -/
  cpuGrant : Bool
deriving DecidableEq, Repr

/-! ### Reset (R400 to R402) -/

/-- Reset value of the bitplane block (R401). -/
def Bitplane.initial : Bitplane where
  con0 := 0
  con1 := 0
  con2 := 0
  pt := Vector.replicate 6 0
  mod1 := 0
  mod2 := 0
  dat := Vector.replicate 6 0
  diwstrt := 0
  diwstop := 0
  ddfstrt := 0
  ddfstop := 0
  shift := Vector.replicate 6 0
  pendingOdd := false
  pendingEven := false
  dueOdd := 0
  dueEven := 0
  modCountdown := Vector.replicate 6 0
  ddfOpen := false
  ddfPos := 0
  ddfLast := false

/-- Reset value of a sprite (R401, D44). -/
def Sprite.initial : Sprite where
  pt := 0
  pos := 0
  ctl := 0
  data := 0
  datb := 0
  holdA := 0
  holdB := 0
  armed := false
  active := false
  dma := .idle

/-- Reset value of the blitter (R401, D44). -/
def Blitter.initial : Blitter where
  con0 := 0
  con1 := 0
  afwm := 0
  alwm := 0
  apt := 0
  bpt := 0
  cpt := 0
  dpt := 0
  amod := 0
  bmod := 0
  cmod := 0
  dmod := 0
  adat := 0
  bdat := 0
  cdat := 0
  ddat := 0
  width := 0
  height := 0
  st := .stopped
  startCount := 0
  phase := 0
  w := 0
  h := 0
  aold := 0
  bold := 0
  ahold := 0
  bhold := 0
  dpending := false
  dlast := false
  busy := false
  zero := false
  fillCarry := false
  dotThisLine := false
  sign := false

/-- Reset value of the copper (R401, D44). -/
def Copper.initial : Copper where
  st := .halted
  pc := 0
  ir1 := 0
  ir2 := 0
  haveIr1 := false
  skipNext := false
  jmpTarget := false
  lc1 := 0
  lc2 := 0
  con := 0

/-- Reset value of an audio channel (R401, D44). -/
def AudioChan.initial : AudioChan where
  st := .inactive
  lc := 0
  len := 0
  per := 0
  vol := 0
  dat := 0
  cur := 0
  ptr := 0
  wlen := 0
  percnt := 0
  dmareq := false
  out := 0
  filt := 0

/-- Reset value of the disk block (R401): every byte of the buffer is zero and the buffer is not valid. -/
def Disk.initial : Disk where
  pt := 0
  len := 0
  prevEn := false
  active := false
  remaining := 0
  synced := false
  sync := 0
  hold := 0
  buf := []
  bufPos := 0
  bufValid := false

/-- Reset value of a drive (R28, D45): the medium stays. -/
def Drive.initial (k : Config) (media : Option Medium) : Drive where
  motor := false
  spin := 0
  side := false
  dir := false
  cyl := 0
  index := k.revolutionTicks
  media := media

/-- Reset value of a CIA (R401, D45): all zero but the timer latches. -/
def Cia.initial : Cia where
  pra := 0
  prb := 0
  ddra := 0
  ddrb := 0
  ta := 0
  tb := 0
  taLatch := 0xFFFF
  tbLatch := 0xFFFF
  cra := 0
  crb := 0
  tod := 0
  alarm := 0
  sdr := 0
  icrData := 0
  icrMask := 0
  irq := false

/-- Interrupt state at reset (R401). -/
def Irq.initial : Irq where
  intena := 0
  intreq := 0
  countdown := Vector.replicate 14 0
  iplCurrent := 0
  iplTarget := 0
  iplDelay := 0

/-- The state right after `reset()` for given parameters, chip memory and media, which reset leaves alone (R400, R401), and a
given queue of host calls. -/
def State.afterReset (k : Config) (mem : Memory) (media : Vector (Option Medium) 4) (host : List HostOp) : State where
  cfg := k
  mem := mem
  beam := ⟨0, 0, false⟩
  dmacon := 0
  irq := Irq.initial
  cpuBlock := 0
  bpl := Bitplane.initial
  color := Vector.replicate 32 0
  spr := Vector.replicate 8 Sprite.initial
  blt := Blitter.initial
  cop := Copper.initial
  aud := Vector.replicate 4 AudioChan.initial
  adkcon := 0
  dsk := Disk.initial
  drives := Vector.ofFn fun d => Drive.initial k media[d]
  ciaA := Cia.initial
  ciaB := Cia.initial
  ciaDiv := 0
  host := host
  out := StepOut.empty
  cpuGrant := false

/-- The machine right after reset at power-on: default parameters, chip memory with nothing listed, no medium, no host call
queued (log 1, log 2). -/
def State.reset : State := State.afterReset Config.default [] (Vector.replicate 4 none) []

/-- `reset()` in a running machine: every element of the aggregate, the drives and the CIAs at its reset value; parameters,
chip memory, media and the host's further calls unchanged (R400). -/
def State.resetAgain (s : State) : State :=
  State.afterReset s.cfg s.mem (Vector.ofFn fun d => s.drives[d].media) s.host

end Sys2Proof.Machine
end

