-- ==== Sys2Proof/Machine/Ops.lean ====
section
/-! DEFINITION. The operations every part of the machine shares: sequencing of outcomes, one named update per block of the
state, memory (R62, R63), pointer sums (R80), the grant record (R123), the enable test (R124), interrupt requests (R372), and
the copper's abort with the two ways out of it (R370). -/

namespace Sys2Proof.Machine

/-- The outcome of an action of the machine. -/
abbrev Result := Host.Outcome State Fault Refusal

/-- Go on with the next state, or stop as `r` stopped. -/
def andThen (r : Result) (f : State → Result) : Result :=
  match r with
  | .next s => f s
  | .fault e => .fault e
  | .refused e => .refused e

/-! ### One update per block of the state -/

/-- `s` with `mem` replaced. -/
def State.withMem (s : State) (x : Memory) : State := { s with mem := x }

/-- `s` with `beam` replaced. -/
def State.withBeam (s : State) (x : Beam) : State := { s with beam := x }

/-- `s` with `dmacon` replaced. -/
def State.withDmacon (s : State) (x : Word) : State := { s with dmacon := x }

/-- `s` with `irq` replaced. -/
def State.withIrq (s : State) (x : Irq) : State := { s with irq := x }

/-- `s` with `cpuBlock` replaced. -/
def State.withCpuBlock (s : State) (x : BitVec 2) : State := { s with cpuBlock := x }

/-- `s` with `bpl` replaced. -/
def State.withBpl (s : State) (x : Bitplane) : State := { s with bpl := x }

/-- `s` with `color` replaced. -/
def State.withColor (s : State) (x : Vector (BitVec 12) 32) : State := { s with color := x }

/-- `s` with `spr` replaced. -/
def State.withSpr (s : State) (x : Vector Sprite 8) : State := { s with spr := x }

/-- `s` with `blt` replaced. -/
def State.withBlt (s : State) (x : Blitter) : State := { s with blt := x }

/-- `s` with `cop` replaced. -/
def State.withCop (s : State) (x : Copper) : State := { s with cop := x }

/-- `s` with `aud` replaced. -/
def State.withAud (s : State) (x : Vector AudioChan 4) : State := { s with aud := x }

/-- `s` with `adkcon` replaced. -/
def State.withAdkcon (s : State) (x : BitVec 15) : State := { s with adkcon := x }

/-- `s` with `dsk` replaced. -/
def State.withDsk (s : State) (x : Disk) : State := { s with dsk := x }

/-- `s` with `drives` replaced. -/
def State.withDrives (s : State) (x : Vector Drive 4) : State := { s with drives := x }

/-- `s` with `ciaA` replaced. -/
def State.withCiaA (s : State) (x : Cia) : State := { s with ciaA := x }

/-- `s` with `ciaB` replaced. -/
def State.withCiaB (s : State) (x : Cia) : State := { s with ciaB := x }

/-- `s` with `ciaDiv` replaced. -/
def State.withCiaDiv (s : State) (x : BitVec 4) : State := { s with ciaDiv := x }

/-- `s` with `host` replaced. -/
def State.withHost (s : State) (x : List HostOp) : State := { s with host := x }

/-- `s` with `out` replaced. -/
def State.withOut (s : State) (x : StepOut) : State := { s with out := x }

/-- `s` with `cpuGrant` replaced. -/
def State.withCpuGrant (s : State) (x : Bool) : State := { s with cpuGrant := x }

/-! ### Bits -/

/-- `x` with bit `i` set to `b`. -/
def setBit {w : Nat} (x : BitVec w) (i : Nat) (b : Bool) : BitVec w :=
  if b then x ||| (1#w <<< i) else x &&& ~~~(1#w <<< i)

/-- `sext_16` (R6). -/
def sext16 (v : Word) : Int := v.toInt

/-- The high half of a pointer container replaced (R32). -/
def setHigh (p : Long) (v : Word) : Long := v ++ p.extractLsb' 0 16

/-- The low half of a pointer container replaced (R32). -/
def setLow (p : Long) (v : Word) : Long := p.extractLsb' 16 16 ++ v

/-! ### Byte memory in canonical form -/

/-- What an address nothing has been written to reads as (log 1). -/
def unwrittenByte : Byte := 0

/-- The byte at an address. -/
def Mem.read : Memory → Nat → Byte
  | [], _ => unwrittenByte
  | (b, w) :: m, a => if b = a then w else Mem.read m a

/-- A byte written at an address; the canonical form is kept. -/
def Mem.write : Memory → Nat → Byte → Memory
  | [], a, v => if v = unwrittenByte then [] else [(a, v)]
  | (b, w) :: m, a, v =>
      if a < b then
        if v = unwrittenByte then (b, w) :: m else (a, v) :: (b, w) :: m
      else if b = a then
        if v = unwrittenByte then m else (a, v) :: m
      else (b, w) :: Mem.write m a v

/-- Every address of `m` lies above `lo`, they rise strictly, and no entry equals the unwritten byte. -/
def Mem.wfAbove : Nat → Memory → Bool
  | _, [] => true
  | lo, (b, w) :: m => decide (lo ≤ b) && decide (w ≠ unwrittenByte) && Mem.wfAbove (b + 1) m

/-- The canonical form. -/
def Mem.wf (m : Memory) : Bool := Mem.wfAbove 0 m

/-- A big-endian word (R62). -/
def Mem.readWord (m : Memory) (a : Nat) : Word := Mem.read m a ++ Mem.read m (a + 1)

/-- A big-endian word written (R62, R63). -/
def Mem.writeWord (m : Memory) (a : Nat) (v : Word) : Memory :=
  Mem.write (Mem.write m a (v.extractLsb' 8 8)) (a + 1) (v.extractLsb' 0 8)

/-- `n` bytes from `a` on. -/
def Mem.readBytes (m : Memory) (a n : Nat) : List Byte := (List.range n).map fun i => Mem.read m (a + i)

/-- Bytes written from `a` on. -/
def Mem.writeBytes (m : Memory) (a : Nat) : List Byte → Memory
  | [] => m
  | v :: vs => Mem.writeBytes (Mem.write m a v) (a + 1) vs

/-- Memory that holds `bytes` from address `a` on and nothing else. -/
def Mem.ofBytes (a : Nat) : List Byte → Memory
  | [] => []
  | v :: vs => if v = unwrittenByte then Mem.ofBytes (a + 1) vs else (a, v) :: Mem.ofBytes (a + 1) vs

/-! ### DMA accesses (R63, R80) -/

/-- The address a pointer stands for: `ptr & CHIP_ADDR_MASK` (R63, R64). -/
def dmaAddr (s : State) (p : Long) : Nat := (p &&& s.cfg.chipAddrMask).toNat

/-- The address lies inside installed memory (R63). -/
def dmaInRange (s : State) (p : Long) : Bool := dmaAddr s p + 1 < s.cfg.chipMemBytes

/-- `MemRead(addr, 2)`: go on with the word read, or fault (R63). -/
def withMemRead (s : State) (p : Long) (k : Word → Result) : Result :=
  if dmaInRange s p then k (Mem.readWord s.mem (dmaAddr s p)) else .fault .chipAddressOutOfRange

/-- `MemWrite(addr, 2, v)` (R63). -/
def memWrite (s : State) (p : Long) (v : Word) : Result :=
  if dmaInRange s p then .next (s.withMem (Mem.writeWord s.mem (dmaAddr s p) v)) else .fault .chipAddressOutOfRange

/-- `ptr + k` computed in unbounded integers: go on with the sum, or fault outside 0 .. 2^32 - 1 (R80). -/
def withPtrAdd (p : Long) (k : Int) (cont : Long → Result) : Result :=
  if 0 ≤ (p.toNat : Int) + k ∧ (p.toNat : Int) + k < 4294967296 then
    cont (BitVec.ofNat 32 ((p.toNat : Int) + k).toNat)
  else .fault .pointerOverflow

/-! ### The slot (R5, R123, R124) -/

/-- The colclock of a tick: `hpos >> 1` (R5). -/
def State.cc (s : State) : Word := s.beam.hpos >>> 1

/-- `hpos[0] = 0` (R5). -/
def State.isArbTick (s : State) : Bool := !s.beam.hpos.getLsbD 0

/-- `grant(owner, addr, val)` (R123). -/
def grant (owner : BusOwner) (addr : Long) (val : Word) (s : State) : State :=
  s.withOut { s.out with bus := owner, dmaAddress := addr &&& s.cfg.chipAddrMask, dmaValue := val }

/-- A consumer has claimed the slot of this tick: `grant` has been called (R122, R153 (b)). -/
def State.claimed (s : State) : Bool := s.out.bus != .none

/-- `dma_on(X)`: the master enable and the enable at `bit` (R124). -/
def State.dmaOn (s : State) (bit : Nat) : Bool := s.dmacon.getLsbD dmaMaster && s.dmacon.getLsbD bit

/-! ### Interrupt requests (R372) -/

/-- `raise_irq(b, d)` on the interrupt block. -/
def Irq.raise (q : Irq) (b : Fin 14) (d : Byte) : Irq :=
  if d = 0 then { q with intreq := setBit q.intreq b.val true }
  else if q.countdown[b] = 0 then { q with countdown := q.countdown.set b d }
  else q

/-- `raise_irq(b, d)` (R372). -/
def raiseIrq (b : Fin 14) (d : Byte) (s : State) : State := s.withIrq (s.irq.raise b d)

/-! ### The copper's exception and the ways out of it (R370) -/

/-- `CopperAbort` (R370): the state machine halts; nothing is saved, nothing is recorded, no request is raised, `cop_pc` keeps
pointing after the instruction. -/
def copperAbort (s : State) : State := s.withCop { s.cop with st := .halted }

/-- The first way out of `halted`: the copper's part of a field start (R151, R243). -/
def copperFieldStart (s : State) : State :=
  s.withCop { s.cop with st := .vblank, haveIr1 := false, skipNext := false }

/-- The second way out: a jump strobe, from any state (R252); `second` chooses `cop2lc`. -/
def copperJump (second : Bool) (s : State) : State :=
  s.withCop { s.cop with jmpTarget := second, st := .jmpDelay1, haveIr1 := false, skipNext := false }

end Sys2Proof.Machine
end

