-- ==== Sys2Proof/Machine/Operands.lean ====
section
/-! DEFINITION. The operand forms of the block: fields of registers (spec/10_state.md), the blitter's shifter, minterm and
size field, window and sprite coordinates, colours, sample halves, and the copper's target and mask. -/

namespace Sys2Proof.Machine

/-! ### Blitter operands (R23, R100, R101, R102, R208, R210, R218) -/

/-- What `bltcon1` says in an area mode (R23): B shift, the two fill bits, fill carry in, descending. -/
structure BltMode where
  bsh : BitVec 4
  efe : Bool
  ife : Bool
  fci : Bool
  desc : Bool
deriving DecidableEq, Repr

/-- What `bltcon1` says in line mode (R23). -/
structure LineMode where
  bsh : BitVec 4
  sign : Bool
  sud : Bool
  sul : Bool
  aul : Bool
  sing : Bool
deriving DecidableEq, Repr

/-- `ASH`, bits 15..12 of `bltcon0`. -/
def bltAsh (con0 : Word) : BitVec 4 := con0.extractLsb' 12 4

/-- `bltcon0` with `ASH` replaced (line mode moves the dot with it, R219). -/
def withAsh (con0 : Word) (a : BitVec 4) : Word := a ++ con0.extractLsb' 0 12

/-- `USEA`. -/
def useA (con0 : Word) : Bool := con0.getLsbD 11
/-- `USEB`. -/
def useB (con0 : Word) : Bool := con0.getLsbD 10
/-- `USEC`. -/
def useC (con0 : Word) : Bool := con0.getLsbD 9
/-- `USED`. -/
def useD (con0 : Word) : Bool := con0.getLsbD 8

/-- The minterm field `LF`. -/
def bltLf (con0 : Word) : Byte := con0.extractLsb' 0 8

/-- `BSH` of `bltcon1`. -/
def bltBsh (con1 : Word) : BitVec 4 := con1.extractLsb' 12 4
/-- `SIGN` of `bltcon1`. -/
def bltSignBit (con1 : Word) : Bool := con1.getLsbD 6
/-- `FCI` of `bltcon1`. -/
def bltFci (con1 : Word) : Bool := con1.getLsbD 2
/-- `DESC` of `bltcon1`. -/
def bltDesc (con1 : Word) : Bool := con1.getLsbD 1
/-- `LINE` of `bltcon1`. -/
def bltLineBit (con1 : Word) : Bool := con1.getLsbD 0

/-- The barrel shifter on two successive words (R208). -/
def barrel (new old : Word) (n : BitVec 4) (desc : Bool) : Word :=
  if desc then ((new ++ old) <<< n.toNat).extractLsb' 16 16
  else ((old ++ new) >>> n.toNat).extractLsb' 0 16

/-- `rotr16` (R218). -/
def rotr16 (x : Word) (n : BitVec 4) : Word := (x >>> n.toNat) ||| (x <<< (16 - n.toNat))

/-- `rotl16` by one (R218, R219). -/
def rotl16One (x : Word) : Word := (x <<< 1) ||| (x >>> 15)

/-- One product term of the minterm expansion, present when its bit of `LF` is set (R210). -/
def mintermTerm (on : Bool) (t : Word) : Word := if on then t else 0

/-- The minterm function as "the explicit bitwise boolean expansion (∑ over set minterm bits of the corresponding product
term)" (R210). -/
def minterm (lf : Byte) (a b c : Word) : Word :=
  mintermTerm (lf.getLsbD 7) (a &&& b &&& c) ||| mintermTerm (lf.getLsbD 6) (a &&& b &&& ~~~c)
    ||| mintermTerm (lf.getLsbD 5) (a &&& ~~~b &&& c) ||| mintermTerm (lf.getLsbD 4) (a &&& ~~~b &&& ~~~c)
    ||| mintermTerm (lf.getLsbD 3) (~~~a &&& b &&& c) ||| mintermTerm (lf.getLsbD 2) (~~~a &&& b &&& ~~~c)
    ||| mintermTerm (lf.getLsbD 1) (~~~a &&& ~~~b &&& c) ||| mintermTerm (lf.getLsbD 0) (~~~a &&& ~~~b &&& ~~~c)

/-- The height of a size register value: bits 15..6, 0 meaning 1024 (R101). -/
def sizeHeight (v : Word) : BitVec 11 := if v.extractLsb' 6 10 = 0 then 1024 else (v.extractLsb' 6 10).setWidth 11

/-- The width of a size register value: bits 5..0, 0 meaning 64 (R101). -/
def sizeWidth (v : Word) : BitVec 7 := if v.extractLsb' 0 6 = 0 then 64 else (v.extractLsb' 0 6).setWidth 7

/-- `+1` or `-1`, the direction of an area blit's pointers (R209). -/
def bltDir (desc : Bool) : Int := if desc then -1 else 1

/-- The phase pattern of an area mode (R102, R206). -/
def areaPattern (s : State) (m : BltMode) : List BltPhase :=
  s.cfg.cycleTable[cycleIndex (useA s.blt.con0) (useB s.blt.con0) (useC s.blt.con0) (useD s.blt.con0) (m.efe || m.ife)]

/-! ### Copper operands (R94, R247, R249) -/

/-- `target = w1 & 0xFFFE`, from the fields of a WAIT or SKIP. -/
def copperTarget (vp hp : Byte) : Word := (vp ++ hp) &&& 0xFFFE

/-- `mask = 0x8000 | (w2 & 0x7FFE)`, from the fields. -/
def copperMask (ve : BitVec 7) (he : Byte) : Word := 0x8000 ||| (((0 : BitVec 1) ++ ve ++ he) &&& 0x7FFE)

/-- The danger flag `CDANG`, bit 1 of `copcon`. -/
def copperDanger (s : State) : Bool := s.cop.con.getLsbD 1

/-- `copper_threshold()` (R247). -/
def copperThreshold (s : State) : Word := if copperDanger s then s.cfg.copProtectDanger else s.cfg.copProtectSafe

/-- `COPPER_SLOT_OK(cc)` (R244, D11). -/
def copperSlotOk (s : State) : Bool := decide (s.cc.toNat ∉ s.cfg.copperBlocked)

/-! ### Registers by offset (R31, R66) -/

/-- `off & 0x1FE` (R66). -/
def regOffset (off : Word) : Word := off &&& 0x1FE

/-- The register a table has at an offset. -/
def findReg (o : Word) : List (Word × Reg) → Option Reg
  | [] => none
  | (k, r) :: rest => if k = o then some r else findReg o rest

/-- The register `REGMAP` has at an offset (R66). -/
def regAt (k : Config) (off : Word) : Option Reg := findReg (regOffset off) k.regmap

/-! ### Display operands (R19, R103, R104, R164, R165, R173, R184) -/

/-- `HIRES`. -/
def Bitplane.hires (b : Bitplane) : Bool := b.con0.getLsbD 15

/-- `BPU`, with 7 treated as 6 (R167, D13). -/
def Bitplane.planes (b : Bitplane) : Nat := min (b.con0.extractLsb' 12 3).toNat 6

/-- `LACE`. -/
def Bitplane.lace (b : Bitplane) : Bool := b.con0.getLsbD 2

/-- `PF1H`, the scroll of the odd planes. -/
def Bitplane.scrollOdd (b : Bitplane) : BitVec 4 := b.con1.extractLsb' 0 4

/-- `PF2H`, the scroll of the even planes. -/
def Bitplane.scrollEven (b : Bitplane) : BitVec 4 := b.con1.extractLsb' 4 4

/-- `BPL_LATCH_DELAY(scroll, hires)` (R172). -/
def latchDelay (k : Config) (scroll : BitVec 4) (hires : Bool) : Byte :=
  if hires then k.latchDelayHires[scroll.toFin] else k.latchDelayLores[scroll.toFin]

/-- The plane with index `p` (plane `p + 1`) is one of the odd planes 1, 3, 5 (R174). -/
def oddPlane (p : Fin 6) : Bool := p.val % 2 == 0

/-- `clamp(v & 0x00FC, DDF_MIN, DDF_MAX)` (R165, R6). -/
def ddfClamp (k : Config) (v : Word) : Nat :=
  max k.ddfMin.toNat (min (v &&& 0x00FC).toNat k.ddfMax.toNat)

/-- `ddfstrt_c` (R165). -/
def ddfStart (s : State) : Nat := ddfClamp s.cfg s.bpl.ddfstrt

/-- `ddfstop_c` (R165). -/
def ddfStop (s : State) : Nat := ddfClamp s.cfg s.bpl.ddfstop

/-- `plane_at`: the plane the schedule names at the current position, 0 for none (R167). -/
def planeAt (s : State) : Fin 7 :=
  if s.bpl.hires then s.cfg.schedHires[(s.bpl.ddfPos.extractLsb' 0 2).toFin]
  else s.cfg.schedLores[(s.bpl.ddfPos.extractLsb' 0 3).toFin]

/-- The least line of the vertical display window (R164). -/
def diwVStart (b : Bitplane) : Nat := (b.diwstrt.extractLsb' 8 8).toNat

/-- The line after the vertical display window: the 9-bit value whose top bit is the complement of bit 15 (R164). -/
def diwVStop (b : Bitplane) : Nat := (BitVec.ofBool (!b.diwstop.getLsbD 15) ++ b.diwstop.extractLsb' 8 8).toNat

/-- The first tick of the horizontal display window (R184). -/
def diwHStart (b : Bitplane) : Nat := (b.diwstrt.extractLsb' 0 8).toNat

/-- The tick after the horizontal display window: `0x100 | diwstop[7:0]` (R184). -/
def diwHStop (b : Bitplane) : Nat := 256 + (b.diwstop.extractLsb' 0 8).toNat

/-- A 12-bit colour as ARGB32, each nibble doubled (R104, D17). -/
def argb (c : BitVec 12) : Long :=
  0xFF000000 ||| ((c.extractLsb' 8 4).setWidth 32 * 0x110000) ||| ((c.extractLsb' 4 4).setWidth 32 * 0x1100)
    ||| ((c.extractLsb' 0 4).setWidth 32 * 0x11)

/-! ### Sprite operands (R22) -/

/-- `spr_vstart(n)`. -/
def Sprite.vstart (p : Sprite) : BitVec 9 := BitVec.ofBool (p.ctl.getLsbD 2) ++ p.pos.extractLsb' 8 8

/-- `spr_vstop(n)`. -/
def Sprite.vstop (p : Sprite) : BitVec 9 := BitVec.ofBool (p.ctl.getLsbD 1) ++ p.ctl.extractLsb' 8 8

/-- `spr_hstart(n)`, in ticks. -/
def Sprite.hstart (p : Sprite) : BitVec 9 := p.pos.extractLsb' 0 8 ++ BitVec.ofBool (p.ctl.getLsbD 0)

/-! ### Audio operands (R105, R322, R328) -/

/-- The first half-sample of a word. -/
def firstHalf (w : Word) : Byte := w.extractLsb' 8 8

/-- The second half-sample of a word. -/
def secondHalf (w : Word) : Byte := w.extractLsb' 0 8

/-- `period(n) = max(aud_per[n], 113)` (R322). -/
def AudioChan.period (c : AudioChan) : Word := if c.per < audPerMin then audPerMin else c.per

/-- `min(v[6:0], 64)` (R328). -/
def volumeOf (v : Word) : BitVec 7 := if v.extractLsb' 0 7 < 64 then v.extractLsb' 0 7 else 64

/-! ### Disk operands (R27, R281, R288) -/

/-- `dsklen.WRITE`. -/
def Disk.writing (d : Disk) : Bool := d.len.getLsbD 14

/-- `dsklen.LENGTH`. -/
def Disk.length (d : Disk) : BitVec 14 := d.len.extractLsb' 0 14

/-- `adkcon.WORDSYNC`. -/
def State.wordSync (s : State) : Bool := s.adkcon.getLsbD 10

end Sys2Proof.Machine
end

