-- ==== Sys2Proof/Machine/Flags.lean ====
section
/-! DEFINITION. Every one-bit condition the block computes (R14): the fill carry, the blitter's zero and sign flags, the
copper's comparison, the CPU-block test, the word-equal indication, the display windows, and the interrupt level. -/

namespace Sys2Proof.Machine

/-! ### Blitter flags (R210 to R213, R219, R139) -/

/-- One bit of `fill_word`: output bit `i` and the carry toggled by the input bit (R213); exclusive fill is XOR. -/
def fillBit (excl : Bool) (d : Word) (acc : Word × Bool) (i : Nat) : Word × Bool :=
  let b := d.getLsbD i
  (setBit acc.1 i (if excl then b != acc.2 else b || acc.2), acc.2 != b)

/-- `fill_word(d)`: the output word and the carry after bit 15, from the least significant bit upward (R213). -/
def fillWord (excl carry : Bool) (d : Word) : Word × Bool :=
  (List.range 16).foldl (fillBit excl d) (0, carry)

/-- The zero flag after a result word: cleared by a non-zero word (R211, R217). -/
def zeroAfter (zero : Bool) (d : Word) : Bool := zero && d == 0

/-- The Bresenham sign: `sext_16(bltpt[A][15:0]) < 0` (R219). -/
def lineSign (apt : Long) : Bool := apt.getLsbD 15

/-- The CPU-block test: the blitter gets the bus iff `cpu_block < 3 or BLTPRI = 1` (R139). -/
def busOk (s : State) : Bool := decide (s.cpuBlock < cpuBlockMax) || s.dmacon.getLsbD dmaBltpri

/-- The counter after an arbitration tick (R141). -/
def cpuBlockAfter (claimed wants : Bool) (n : BitVec 2) : BitVec 2 :=
  if !claimed then 0
  else if wants then (if n < cpuBlockMax then n + 1 else cpuBlockMax)
  else n

/-! ### The copper's comparison (R249) -/

/-- The beam position compared: `vpos[7:0]` over the colclock one ahead, no carry between them. -/
def copperCur (s : State) : Word := s.beam.vpos.extractLsb' 0 8 ++ (s.cc + copWakeAhead / 2).extractLsb' 0 8

/-- `beam_ok`. -/
def beamOk (vp hp : Byte) (ve : BitVec 7) (he : Byte) (s : State) : Bool :=
  decide (copperTarget vp hp &&& copperMask ve he ≤ copperCur s &&& copperMask ve he)

/-- `copper_cond(cc)`: the beam has reached the target and, unless the override bit is set, the blitter is not busy. -/
def copperCond (vp hp : Byte) (bfd : Bool) (ve : BitVec 7) (he : Byte) (s : State) : Bool :=
  beamOk vp hp ve he s && (bfd || !s.blt.busy)

/-! ### Disk (R286) -/

/-- `dsk_wordequal`. -/
def dskWordEqual (s : State) : Bool := s.dsk.hold != 0

/-! ### Windows (R164, R184) -/

/-- `vdiw_open`. -/
def vdiwOpen (s : State) : Bool :=
  decide (diwVStart s.bpl ≤ s.beam.vpos.toNat) && decide (s.beam.vpos.toNat < diwVStop s.bpl)

/-- `hdiw_open`. -/
def hdiwOpen (s : State) : Bool :=
  decide (diwHStart s.bpl ≤ s.beam.hpos.toNat) && decide (s.beam.hpos.toNat < diwHStop s.bpl)

/-! ### The interrupt level (R373, R376) -/

/-- The request bits, in order. -/
def irqBits : List (Fin 14) := [0, 1, 2, 3, 4, 5, 6, 7, 8, 9, 10, 11, 12, 13]

/-- The level of one bit: its `IPL_TABLE` entry when it is enabled and pending, else 0. -/
def irqBitLevel (k : Config) (q : Irq) (b : Fin 14) : BitVec 3 :=
  if q.intena.getLsbD b.val && q.intreq.getLsbD b.val then k.iplTable[b] else 0

/-- The greater of two levels. -/
def maxLevel (a b : BitVec 3) : BitVec 3 := if a < b then b else a

/-- The computed level: 0 unless INTEN, else the maximum over the enabled pending bits (R376). -/
def irqLevel (k : Config) (q : Irq) : BitVec 3 :=
  if q.intena.getLsbD 14 then irqBits.foldl (fun l b => maxLevel l (irqBitLevel k q b)) 0 else 0

/-- `update_ipl()` on the interrupt block (R376). -/
def Irq.update (k : Config) (q : Irq) : Irq :=
  let lvl := irqLevel k q
  let q1 :=
    if lvl ≠ q.iplTarget then { q with iplTarget := lvl, iplDelay := k.iplLatency }
    else if q.iplDelay = 0 then q
    else { q with iplDelay := q.iplDelay - 1 }
  if q1.iplDelay = 0 then { q1 with iplCurrent := q1.iplTarget } else q1

/-- `irq_countdowns()` on the interrupt block: every running count goes down by one and the bits of those that reach zero are
set (R374). -/
def Irq.countDown (q : Irq) : Irq :=
  { q with
    countdown := Vector.ofFn fun b => if q.countdown[b] = 0 then 0 else q.countdown[b] - 1
    intreq := irqBits.foldl (fun r b => if q.countdown[b] = 1 then setBit r b.val true else r) q.intreq }

end Sys2Proof.Machine
end

