-- ==== Sys2Proof/Machine/Mfm.lean ====
section
/-! DEFINITION. The MFM codec and the media (spec/30_encoding.md R106 to R111, spec/44_disk_mfm.md R297 to R301). -/

namespace Sys2Proof.Machine

/-! ### The MFM cell (R106) -/

/-- A half longword with its clock bits (R106, R107): data bits at the even positions of `x`, the clock bit before a data bit
set when that data bit and the one before it are both 0; `prev` is the last data bit stored before. -/
def mfmHalf (prev : Bool) (x : Long) : Long :=
  let before : Long := (x >>> 1) ||| (BitVec.ofBool prev ++ (0 : BitVec 31))
  x ||| (~~~((x <<< 1) ||| before) &&& 0xAAAAAAAA)

/-- The eight data bits of a byte at the even positions of a word. -/
def spreadByte (b : Byte) : Word :=
  (List.range 8).foldl (fun w i => setBit w (2 * i) (b.getLsbD i)) 0

/-- A data byte as its 16-bit MFM word (R106). -/
def mfmByte (prev : Bool) (b : Byte) : Word :=
  let x := spreadByte b
  let before : Word := (x >>> 1) ||| (BitVec.ofBool prev ++ (0 : BitVec 15))
  x ||| (~~~((x <<< 1) ||| before) &&& 0xAAAA)

/-- Bytes of a longword, high byte first (R62). -/
def bytesOfLong (x : Long) : List Byte := [x.extractLsb' 24 8, x.extractLsb' 16 8, x.extractLsb' 8 8, x.extractLsb' 0 8]

/-- A longword from its bytes, high byte first (R62). -/
def longOfBytes (a b c d : Byte) : Long := a ++ b ++ c ++ d

/-! ### Odd and even halves (R107) -/

/-- `odd(L)`. -/
def oddHalf (x : Long) : Long := (x >>> 1) &&& 0x55555555

/-- `even(L)`. -/
def evenHalf (x : Long) : Long := x &&& 0x55555555

/-- `join(o, e)`. -/
def joinHalves (o e : Long) : Long := ((o &&& 0x55555555) <<< 1) ||| (e &&& 0x55555555)

/-! ### The checksum (R110) -/

/-- The exclusive or of the bytes taken as big-endian longwords; a rest shorter than a longword does not count. -/
def xorLongs : List Byte → Long
  | a :: b :: c :: d :: rest => longOfBytes a b c d ^^^ xorLongs rest
  | _ => 0

/-- `checksum(bytes)`. -/
def mfmChecksum (bytes : List Byte) : Long := xorLongs bytes &&& 0x55555555

/-! ### The track encoder (R298) -/

/-- MFM emitted so far and the last data bit stored. -/
structure Emit where
  bytes : List Byte
  last : Bool
deriving DecidableEq, Repr

/-- `emit_half` for each half in turn, after the data bit `last`. -/
def emitHalves (last : Bool) : List Long → Emit
  | [] => ⟨[], last⟩
  | x :: xs =>
      let r := emitHalves (x.getLsbD 0) xs
      ⟨bytesOfLong (mfmHalf last x) ++ r.bytes, r.last⟩

/-- `emit_split(longs)`: all odd halves, then all even halves. -/
def emitSplit (last : Bool) (longs : List Long) : Emit :=
  let o := emitHalves last (longs.map oddHalf)
  let e := emitHalves o.last (longs.map evenHalf)
  ⟨o.bytes ++ e.bytes, e.last⟩

/-- `emit_data_bytes` of `n` zero bytes. -/
def emitZeroBytes (last : Bool) : Nat → Emit
  | 0 => ⟨[], last⟩
  | n + 1 =>
      let w := mfmByte last 0
      let r := emitZeroBytes false n
      ⟨[w.extractLsb' 8 8, w.extractLsb' 0 8] ++ r.bytes, r.last⟩

/-- The two sync words 0x4489 0x4489, stored as they are; their last data bit is 1 (R108). -/
def syncBytes : List Byte := [0x44, 0x89, 0x44, 0x89]

/-- The header longword `{0xFF, track, sector, gapdist}` (R109). -/
def headerLong (track sector : Nat) : Long :=
  (0xFF : Byte) ++ BitVec.ofNat 8 track ++ BitVec.ofNat 8 sector ++ BitVec.ofNat 8 (11 - sector)

/-- One sector frame (R108, R298). -/
def encodeSector (checksumFirst : Bool) (track sector : Nat) (data : List Long) (last : Bool) : Emit :=
  let pre := emitZeroBytes last 2
  let hdr := emitSplit true [headerLong track sector]
  let label := emitSplit hdr.last [0, 0, 0, 0]
  let hsum := emitSplit label.last [mfmChecksum (hdr.bytes ++ label.bytes)]
  if checksumFirst then
    let dsum := emitSplit hsum.last [mfmChecksum (emitSplit false data).bytes]
    let pay := emitSplit dsum.last data
    ⟨pre.bytes ++ syncBytes ++ hdr.bytes ++ label.bytes ++ hsum.bytes ++ dsum.bytes ++ pay.bytes, pay.last⟩
  else
    let pay := emitSplit hsum.last data
    let dsum := emitSplit pay.last [mfmChecksum pay.bytes]
    ⟨pre.bytes ++ syncBytes ++ hdr.bytes ++ label.bytes ++ hsum.bytes ++ pay.bytes ++ dsum.bytes, dsum.last⟩

/-- The sectors of a track from number `s` on, each given as its 128 longwords. -/
def encodeSectors (checksumFirst : Bool) (track : Nat) : Nat → List (List Long) → Bool → Emit
  | _, [], last => ⟨[], last⟩
  | s, data :: rest, last =>
      let f := encodeSector checksumFirst track s data last
      let r := encodeSectors checksumFirst track (s + 1) rest f.last
      ⟨f.bytes ++ r.bytes, r.last⟩

/-- The clock bit of the first cell set by the last data bit of the circular track (R298, R106). -/
def fixFirstCell (last : Bool) : List Byte → List Byte
  | [] => []
  | b :: rest => setBit b 7 (!(last || b.getLsbD 6)) :: rest

/-- `encode_track(c, h, sec)` (R298): `secs` are the sectors in order 0..10. -/
def encodeTrack (k : Config) (c h : Nat) (secs : List (List Long)) : List Byte :=
  let f := encodeSectors k.sectorChecksumFirst (2 * c + h) 0 secs false
  let gap := emitZeroBytes f.last ((k.mfmTrackBytes - f.bytes.length + 1) / 2)
  fixFirstCell gap.last (f.bytes ++ gap.bytes)

/-! ### The track decoder (R299) -/

/-- Longword `i` bytes into a list. -/
def longAt (bytes : List Byte) (i : Nat) : Long :=
  longOfBytes (bytes.getD i 0) (bytes.getD (i + 1) 0) (bytes.getD (i + 2) 0) (bytes.getD (i + 3) 0)

/-- The bytes after a run of sync words. -/
def skipSync : List Byte → List Byte
  | a :: b :: rest => if a = 0x44 ∧ b = 0x89 then skipSync rest else a :: b :: rest
  | rest => rest

/-- One sector of 1080 bytes after its sync words: its number and its 512 data bytes, or why it is refused (R299). `seen` are
the numbers of the sectors before it. -/
def decodeSector (checksumFirst : Bool) (c h : Nat) (seen : List Nat) (b : List Byte) : Except MfmError (Nat × List Byte) :=
  let hdr := joinHalves (longAt b 0) (longAt b 4)
  let hsum := joinHalves (longAt b 40) (longAt b 44)
  let track := (hdr.extractLsb' 16 8).toNat
  let s := (hdr.extractLsb' 8 8).toNat
  let q := if checksumFirst then 56 else 48
  let r := if checksumFirst then 48 else 1072
  if hsum ≠ mfmChecksum (b.take 40) then .error .headerChecksum
  else if hdr.extractLsb' 24 8 ≠ 0xFF then .error .badFormatByte
  else if track ≠ 2 * c + h then .error .foreignTrack
  else if 10 < s then .error .sectorOutOfRange
  else if s ∈ seen then .error .duplicateSector
  else if joinHalves (longAt b r) (longAt b (r + 4)) ≠ mfmChecksum ((b.drop q).take 1024) then .error .dataChecksum
  else .ok (s, (List.range 128).flatMap fun i => bytesOfLong (joinHalves (longAt b (q + 4 * i)) (longAt b (q + 512 + 4 * i))))

/-- The search of R299 over the bytes still to read, at most `fuel` steps; `found` are the sectors already accepted. -/
def decodeFrom (checksumFirst : Bool) (c h : Nat) : Nat → List (Nat × List Byte) → List Byte →
    Except MfmError (List (Nat × List Byte))
  | 0, found, _ => .ok found
  | fuel + 1, found, a :: b :: rest =>
      if a = 0x44 ∧ b = 0x89 then
        let body := skipSync rest
        if body.length < 1080 then .error .truncatedSector
        else
          match decodeSector checksumFirst c h (found.map (·.1)) (body.take 1080) with
          | .error e => .error e
          | .ok sec => decodeFrom checksumFirst c h fuel (found ++ [sec]) (body.drop 1080)
      else decodeFrom checksumFirst c h fuel found rest
  | _ + 1, found, _ => .ok found

/-- `decode_track(c, h, bytes)` (R299): every step of the search consumes bytes, so their number bounds its steps. -/
def decodeTrack (k : Config) (c h : Nat) (bytes : List Byte) : Except MfmError (List (Nat × List Byte)) :=
  decodeFrom k.sectorChecksumFirst c h bytes.length [] bytes

/-! ### Media (R111, R297, R301) -/

/-- The offset of a sector in a flat image (R111). -/
def sectorOffset (c h s : Nat) : Nat := ((c * heads + h) * sectorsPerTrack + s) * sectorBytes

/-- The 128 big-endian longwords of a sector of an image. -/
def sectorLongs (image : Memory) (c h s : Nat) : List Long :=
  (List.range 128).map fun i =>
    Mem.readWord image (sectorOffset c h s + 4 * i) ++ Mem.readWord image (sectorOffset c h s + 4 * i + 2)

/-- Bytes cut or padded with 0xAA to `n` (R301). -/
def fitTrack (n : Nat) (bytes : List Byte) : List Byte := bytes.take n ++ List.replicate (n - bytes.length) 0xAA

/-- The raw track of a medium with a track number, if that track is raw (type 1, R111). -/
def findRaw (t : Nat) : List (Nat × List Byte) → Option (List Byte)
  | [] => none
  | (j, bytes) :: rest => if j = t then some bytes else findRaw t rest

/-- The stored bytes of a raw track replaced. -/
def setRaw (t : Nat) (bytes : List Byte) : List (Nat × List Byte) → List (Nat × List Byte)
  | [] => []
  | (j, old) :: rest => if j = t then (j, bytes) :: rest else (j, old) :: setRaw t bytes rest

/-- `read_mfm_track(cyl, side)` (R298, R301; a cylinder above 79 of a sector image reads as 0xAA bytes, R284). -/
def Medium.readTrack (k : Config) (m : Medium) (c h : Nat) : List Byte :=
  match findRaw (2 * c + h) m.rawTracks with
  | some bytes => fitTrack k.mfmTrackBytes bytes
  | none =>
      if c < cylinders then encodeTrack k c h ((List.range sectorsPerTrack).map fun s => sectorLongs m.image c h s)
      else List.replicate k.mfmTrackBytes 0xAA

/-- The accepted sectors put into the image (R299); a cylinder the image does not have has no place for them (log 12). -/
def putSectors (c h : Nat) (image : Memory) : List (Nat × List Byte) → Memory
  | [] => image
  | (s, data) :: rest => putSectors c h (Mem.writeBytes image (sectorOffset c h s) data) rest

/-- `write_mfm_track(cyl, side, bytes)` (R299, R301): the medium after it, or why it is unchanged. -/
def Medium.writeTrack (k : Config) (m : Medium) (c h : Nat) (bytes : List Byte) : Except MfmError Medium :=
  match findRaw (2 * c + h) m.rawTracks with
  | some old => .ok { m with rawTracks := setRaw (2 * c + h) (bytes ++ old.drop bytes.length) m.rawTracks }
  | none =>
      match decodeTrack k c h bytes with
      | .error e => .error e
      | .ok secs => .ok (if c < cylinders then { m with image := putSectors c h m.image secs } else m)

end Sys2Proof.Machine
end

