-- ==== Sys2Proof/Machine/Drive.lean ====
section
/-! DEFINITION. The drive mechanism (spec/44_disk_mfm.md R282, R290 to R297). The control lines are the pins of port B of CIA
instance B (R355), the status lines inputs of port A of instance A (R296). -/

namespace Sys2Proof.Machine

/-- The pins of a port whose undriven pins read 1: `(pr & ddr) | ~ddr` (R354). -/
def pinsOf (pr ddr ext : Byte) : Byte := (pr &&& ddr) ||| (ext &&& ~~~ddr)

/-- The drive control lines: the eight pins of instance B port B (R355). -/
def driveLines (s : State) : Byte := pinsOf s.ciaB.prb s.ciaB.ddrb 0xFF

/-- The drive numbers. -/
def driveIds : List (Fin 4) := [0, 1, 2, 3]

/-- Drive `d` exists (R28) and is selected: `SELd = 0` (R291). -/
def driveSelected (s : State) (d : Fin 4) : Bool := decide (d.val < s.cfg.numDrives) && !(driveLines s).getLsbD (3 + d.val)

/-- Up to speed: `drv_motor = 1 and drv_spin_count = 0` (R292). -/
def Drive.upToSpeed (v : Drive) : Bool := v.motor && v.spin == 0

/-- `ready_drive()`: the lowest-numbered selected drive with a medium that is up to speed (R282). -/
def readyDrive (s : State) : Option (Fin 4) :=
  driveIds.find? fun d => driveSelected s d && s.drives[d].media.isSome && s.drives[d].upToSpeed

/-- `motor_command(d, on)` (R292). -/
def Drive.motorCommand (k : Config) (on : Bool) (v : Drive) : Drive :=
  if on = v.motor then v else { v with motor := on, spin := k.motorDelayTicks }

/-- `head_step(d)`, the movement (R293). -/
def Drive.headStep (k : Config) (v : Drive) : Drive :=
  if v.dir then { v with cyl := if v.cyl = 0 then 0 else v.cyl - 1 }
  else { v with cyl := if v.cyl < k.maxCylinder then v.cyl + 1 else k.maxCylinder }

/-- One drive after the control lines change from `old` to `new` (R291); `sel` is its select line. -/
def Drive.control (k : Config) (old new : Byte) (sel : Nat) (v : Drive) : Drive :=
  let selOld := !old.getLsbD sel
  let selNew := !new.getLsbD sel
  let v := if selNew && !selOld then v.motorCommand k (!new.getLsbD 7) else v
  if selNew then
    let v := { v with side := !new.getLsbD 2, dir := new.getLsbD 1 }
    if old.getLsbD 0 && !new.getLsbD 0 then v.headStep k else v
  else v

/-- The change of the lines invalidates the track buffer by this drive: the head steps, the side changes, or the drive is
selected or deselected (R291, R284). -/
def Drive.controlInvalidates (old new : Byte) (sel : Nat) (v : Drive) : Bool :=
  let selOld := !old.getLsbD sel
  let selNew := !new.getLsbD sel
  (selNew && (v.side != !new.getLsbD 2 || (old.getLsbD 0 && !new.getLsbD 0))) || selNew != selOld

/-- The drive rule, applied once for a change of the control lines from `old` to `new` (R291, R355). -/
def driveControl (old new : Byte) (s : State) : State :=
  let drives := Vector.ofFn fun d : Fin 4 =>
    if d.val < s.cfg.numDrives then s.drives[d].control s.cfg old new (3 + d.val) else s.drives[d]
  let invalid := driveIds.any fun d =>
    decide (d.val < s.cfg.numDrives) && s.drives[d].controlInvalidates old new (3 + d.val)
  (s.withDrives drives).withDsk { s.dsk with bufValid := s.dsk.bufValid && !invalid }

/-! ### Status lines (R296) -/

/-- A drive with no medium, or with a write-protected one. -/
def Drive.protectedOrEmpty (v : Drive) : Bool :=
  match v.media with
  | none => true
  | some m => m.writeProtected

/-- The four status inputs on bits 5..2 of instance A port A, active low; its other bits are undriven (R296, R354). -/
def driveStatus (s : State) : Byte :=
  let any := fun p : Drive → Bool => driveIds.any fun d => driveSelected s d && p s.drives[d]
  let x := setBit (0xFF : Byte) 5 (!any fun v => v.upToSpeed)
  let x := setBit x 4 (!any fun v => v.cyl == 0)
  let x := setBit x 3 (!any fun v => v.protectedOrEmpty)
  setBit x 2 (!any fun v => v.media.isNone)

/-! ### The drive's own step (R295) -/

/-- The motor delay counts down. -/
def Drive.spinDown (v : Drive) : Drive := if v.spin = 0 then v else { v with spin := v.spin - 1 }

/-- The medium turns: `drv_motor = 1 or drv_spin_count > 0` (R292). -/
def Drive.turning (v : Drive) : Bool := v.motor || v.spin != 0

/-- An index pulse falls in this tick of a turning drive: its countdown reaches 0 (R295). -/
def Drive.indexDue (v : Drive) : Bool := v.spinDown.turning && v.spinDown.index - 1 == 0

/-- `drive_tick(d)` on the drive (R295). -/
def Drive.tick (k : Config) (v : Drive) : Drive :=
  let v := v.spinDown
  if v.turning then { v with index := if v.index - 1 = 0 then k.revolutionTicks else v.index - 1 } else v

/-! ### Media (R297) -/

/-- Insertion or removal of a medium: the buffer is no longer valid (R297). -/
def setMedium (d : Fin 4) (m : Option Medium) (s : State) : State :=
  (s.withDrives (s.drives.set d { s.drives[d] with media := m })).withDsk { s.dsk with bufValid := false }

end Sys2Proof.Machine
end

