-- ==== Sys2Proof/Machine/CiaChip.lean ====
section
/-! DEFINITION. The two CIAs (spec/46_cia.md R350 to R359). -/

namespace Sys2Proof.Machine

/-- The instance `i`. -/
def State.cia (s : State) : CiaId → Cia
  | .a => s.ciaA
  | .b => s.ciaB

/-- The instance `i` replaced. -/
def State.setCia (s : State) (i : CiaId) (c : Cia) : State :=
  match i with
  | .a => s.withCiaA c
  | .b => s.withCiaB c

/-! ### Interrupt control (R357, R358) -/

/-- The line goes up when a flag is set that the mask lets through (R357). -/
def Cia.raiseLine (c : Cia) : Cia := if c.icrData &&& c.icrMask ≠ 0 then { c with irq := true } else c

/-- `icr_set(i, b)` (R357). -/
def Cia.icrSet (c : Cia) (b : Nat) : Cia := { c with icrData := setBit c.icrData b true }.raiseLine

/-- The value a read of register 13 returns: `(irq << 7) | icr_data` (R357). -/
def Cia.icrValue (c : Cia) : Byte := BitVec.ofBool c.irq ++ (0 : BitVec 2) ++ c.icrData

/-- What the read of register 13 does: it clears (R357). -/
def Cia.icrClear (c : Cia) : Cia := { c with icrData := 0, irq := false }

/-- A write of register 13 (R357). -/
def Cia.icrWrite (c : Cia) (v : Byte) : Cia :=
  { c with
    icrMask := if v.getLsbD 7 then c.icrMask ||| v.extractLsb' 0 5 else c.icrMask &&& ~~~(v.extractLsb' 0 5) }.raiseLine

/-! ### Timers (R353) -/

/-- Timer A underflows in this CIA tick. -/
def Cia.underflowA (c : Cia) : Bool := c.cra.getLsbD 0 && !c.cra.getLsbD 5 && c.ta == 0

/-- Timer B counts in this CIA tick: its input mode is the tick, or timer A's underflow. -/
def Cia.countsB (c : Cia) (ufA : Bool) : Bool :=
  c.crb.extractLsb' 5 2 == 0 || (c.crb.extractLsb' 5 2 == 2 && ufA)

/-- Timer A's part of `cia_timer_tick`. -/
def Cia.tickA (c : Cia) : Cia :=
  if c.cra.getLsbD 0 && !c.cra.getLsbD 5 then
    if c.ta = 0 then
      let c := { c with ta := c.taLatch }.icrSet 0
      if c.cra.getLsbD 3 then { c with cra := setBit c.cra 0 false } else c
    else { c with ta := c.ta - 1 }
  else c

/-- Timer B's part of `cia_timer_tick`. -/
def Cia.tickB (ufA : Bool) (c : Cia) : Cia :=
  if c.crb.getLsbD 0 && c.countsB ufA then
    if c.tb = 0 then
      let c := { c with tb := c.tbLatch }.icrSet 1
      if c.crb.getLsbD 3 then { c with crb := setBit c.crb 0 false } else c
    else { c with tb := c.tb - 1 }
  else c

/-- `cia_timer_tick(i)` (R353). -/
def Cia.timerTick (c : Cia) : Cia := c.tickA.tickB c.underflowA

/-- `tod_pulse(i)` (R356). -/
def Cia.todPulse (c : Cia) : Cia :=
  let c := { c with tod := c.tod + 1 }
  if c.tod = c.alarm then c.icrSet 2 else c

/-! ### Ports (R354) -/

/-- What drives the pins of port A from outside: the drives' status lines on instance A, nothing on instance B. -/
def portAExt (s : State) : CiaId → Byte
  | .a => driveStatus s
  | .b => 0xFF

/-- `port_a_in(i)` (R354). -/
def portAIn (s : State) (i : CiaId) : Byte := pinsOf (s.cia i).pra (s.cia i).ddra (portAExt s i)

/-- `port_b_in(i)` (R354). -/
def portBIn (s : State) (i : CiaId) : Byte := pinsOf (s.cia i).prb (s.cia i).ddrb 0xFF

/-- `ovl` (R354, R72). -/
def ovl (s : State) : Bool := (portAIn s .a).getLsbD 0

/-- `led` (R354). -/
def led (s : State) : Bool := (portAIn s .a).getLsbD 1

/-- Instance B replaced by `c`, and the drive rule applied once if the pins of its port B change (R355). -/
def setCiaBLines (c : Cia) (s : State) : State :=
  let old := driveLines s
  let s := s.withCiaB c
  if driveLines s = old then s else driveControl old (driveLines s) s

/-- The instance replaced after a write of a port or direction register: the outputs are re-evaluated (R352, R355). -/
def setPorts (i : CiaId) (c : Cia) (s : State) : State :=
  match i with
  | .a => s.withCiaA c
  | .b => setCiaBLines c s

/-! ### Registers (R352) -/

/-- The low byte of a word replaced. -/
def setLoByte (w : Word) (v : Byte) : Word := w.extractLsb' 8 8 ++ v

/-- The high byte of a word replaced. -/
def setHiByte (w : Word) (v : Byte) : Word := v ++ w.extractLsb' 0 8

/-- Byte `k` of a 24-bit counter replaced (registers 8, 9, 10). -/
def setTodByte (t : BitVec 24) (k : Nat) (v : Byte) : BitVec 24 :=
  match k with
  | 0 => t.extractLsb' 8 16 ++ v
  | 1 => t.extractLsb' 16 8 ++ v ++ t.extractLsb' 0 8
  | _ => v ++ t.extractLsb' 0 16

/-- A write of counter byte `k`: of `alarm` if `crb[7] = 1`, else of `tod`. -/
def Cia.writeTod (c : Cia) (k : Nat) (v : Byte) : Cia :=
  if c.crb.getLsbD 7 then { c with alarm := setTodByte c.alarm k v } else { c with tod := setTodByte c.tod k v }

/-- A write of TAHI (R352). -/
def Cia.writeTaHi (c : Cia) (v : Byte) : Cia :=
  let latch := setHiByte c.taLatch v
  { c with
    taLatch := latch
    ta := if !c.cra.getLsbD 0 || c.cra.getLsbD 3 then latch else c.ta
    cra := if c.cra.getLsbD 3 then setBit c.cra 0 true else c.cra }

/-- A write of TBHI (R352). -/
def Cia.writeTbHi (c : Cia) (v : Byte) : Cia :=
  let latch := setHiByte c.tbLatch v
  { c with
    tbLatch := latch
    tb := if !c.crb.getLsbD 0 || c.crb.getLsbD 3 then latch else c.tb
    crb := if c.crb.getLsbD 3 then setBit c.crb 0 true else c.crb }

/-- A write of CRA: the load strobe is not kept (R352). -/
def Cia.writeCra (c : Cia) (v : Byte) : Cia :=
  { c with cra := v &&& 0xEF, ta := if v.getLsbD 4 then c.taLatch else c.ta }

/-- A write of CRB: the load strobe is not kept (R352). -/
def Cia.writeCrb (c : Cia) (v : Byte) : Cia :=
  { c with crb := v &&& 0xEF, tb := if v.getLsbD 4 then c.tbLatch else c.tb }

/-- The value `CiaRead(i, r)` returns (R352). -/
def ciaValue (s : State) (i : CiaId) (r : BitVec 4) : Byte :=
  let c := s.cia i
  match r.toNat with
  | 0 => portAIn s i
  | 1 => portBIn s i
  | 2 => c.ddra
  | 3 => c.ddrb
  | 4 => c.ta.extractLsb' 0 8
  | 5 => c.ta.extractLsb' 8 8
  | 6 => c.tb.extractLsb' 0 8
  | 7 => c.tb.extractLsb' 8 8
  | 8 => c.tod.extractLsb' 0 8
  | 9 => c.tod.extractLsb' 8 8
  | 10 => c.tod.extractLsb' 16 8
  | 11 => s.cfg.regFiller.extractLsb' 0 8
  | 12 => c.sdr
  | 13 => c.icrValue
  | 14 => c.cra
  | _ => c.crb

/-- What `CiaRead(i, r)` changes: only the read of register 13 has an effect (R352, R357). -/
def ciaReadEffect (i : CiaId) (r : BitVec 4) (s : State) : State :=
  if r = 13 then s.setCia i (s.cia i).icrClear else s

/-- `CiaWrite(i, r, v)` (R352). -/
def ciaWrite (i : CiaId) (r : BitVec 4) (v : Byte) (s : State) : State :=
  let c := s.cia i
  match r.toNat with
  | 0 => setPorts i { c with pra := v } s
  | 1 => setPorts i { c with prb := v } s
  | 2 => setPorts i { c with ddra := v } s
  | 3 => setPorts i { c with ddrb := v } s
  | 4 => s.setCia i { c with taLatch := setLoByte c.taLatch v }
  | 5 => s.setCia i (c.writeTaHi v)
  | 6 => s.setCia i { c with tbLatch := setLoByte c.tbLatch v }
  | 7 => s.setCia i (c.writeTbHi v)
  | 8 => s.setCia i (c.writeTod 0 v)
  | 9 => s.setCia i (c.writeTod 1 v)
  | 10 => s.setCia i (c.writeTod 2 v)
  | 11 => s
  | 12 => s.setCia i { c with sdr := v }
  | 13 => s.setCia i (c.icrWrite v)
  | 14 => s.setCia i (c.writeCra v)
  | _ => s.setCia i (c.writeCrb v)

/-! ### Phase 6 of a tick (R351, R295, R359) -/

/-- The counter pulses at the first tick of a line and of a field (R351). -/
def todPulses (s : State) : State :=
  if s.beam.hpos = 0 then
    let s := s.withCiaB s.ciaB.todPulse
    if s.beam.vpos = 0 then s.withCiaA s.ciaA.todPulse else s
  else s

/-- The 1:10 divider and the timers (R351). -/
def ciaDivide (s : State) : State :=
  if s.ciaDiv + 1 = ciaDivider then
    ((s.withCiaDiv 0).withCiaA s.ciaA.timerTick).withCiaB s.ciaB.timerTick
  else s.withCiaDiv (s.ciaDiv + 1)

/-- Every drive's `drive_tick`; an index pulse of a selected drive pulses instance B's flag (R295, R358). -/
def driveTicks (s : State) : State :=
  let pulse := driveIds.any fun d => driveSelected s d && s.drives[d].indexDue
  let drives := Vector.ofFn fun d : Fin 4 => if d.val < s.cfg.numDrives then s.drives[d].tick s.cfg else s.drives[d]
  let s := s.withDrives drives
  if pulse then s.withCiaB (s.ciaB.icrSet 4) else s

/-- `cia_irq_lines()`: the lines are levels (R359). -/
def ciaIrqLines (s : State) : State :=
  let s := if s.ciaA.irq then raiseIrq irqPorts 0 s else s
  if s.ciaB.irq then raiseIrq irqExter 0 s else s

/-- `cia_and_drive_tick()` (R351). -/
def ciaAndDriveTick (s : State) : State := ciaIrqLines (driveTicks (ciaDivide (todPulses s)))

end Sys2Proof.Machine
end

