-- ==== Sys2Proof/Machine/DiskDma.lean ====
section
/-! DEFINITION. Consumer 2, disk DMA (R127, R281 to R289), and the three rows SLOT_DISK0 to SLOT_DISK2. -/

namespace Sys2Proof.Machine

/-- The word under the head (R285). -/
def diskHeadWord (d : Disk) : Word := Mem.readWord d.buf d.bufPos.toNat

/-- The head moved on by a word, wrapping at `MFM_TRACK_BYTES` (R284, R285). -/
def diskAdvance (k : Config) (pos : Word) : Word := BitVec.ofNat 16 ((pos.toNat + 2) % k.mfmTrackBytes)

/-- `track_buffer_load(d)` (R284). -/
def trackBufferLoad (d : Fin 4) (s : State) : State :=
  if s.dsk.bufValid then s
  else
    let v := s.drives[d]
    let bytes := match v.media with
      | some m => m.readTrack s.cfg v.cyl.toNat v.side.toNat
      | none => []
    s.withDsk { s.dsk with
      buf := Mem.ofBytes 0 bytes
      bufPos := BitVec.ofNat 16 (s.dsk.bufPos.toNat % s.cfg.mfmTrackBytes)
      bufValid := true }

/-- `sync_match()` (R286). -/
def syncMatch (s : State) : State :=
  let s := raiseIrq irqDsksyn s.cfg.irqDelayDsksyn s
  s.withDsk { s.dsk with hold := s.cfg.dskbytSyncHold }

/-- `dskbyt_hold_countdown()` (R286). -/
def dskbytHoldCountdown (s : State) : State :=
  if s.dsk.hold = 0 then s else s.withDsk { s.dsk with hold := s.dsk.hold - 1 }

/-- `n`, the bytes of this transfer the flush hands to the medium (R288). -/
def flushCount (s : State) : Nat := min (2 * (s.dsk.length - s.dsk.remaining).toNat) s.cfg.mfmTrackBytes

/-- `data`: the `n` bytes of the buffer that end just before the head, in circular order (R288). -/
def flushBytes (s : State) (n : Nat) : List Byte :=
  (List.range n).map fun i =>
    Mem.read s.dsk.buf ((s.dsk.bufPos.toNat + s.cfg.mfmTrackBytes - n + i) % s.cfg.mfmTrackBytes)

/-- The transfer's bytes handed to the medium of drive `d`; a write-protected medium drops them, and a refused track leaves
the medium unchanged and is told to the host (R288, R299). -/
def flushToDrive (d : Fin 4) (s : State) : State :=
  let v := s.drives[d]
  match v.media with
  | none => s
  | some m =>
      if m.writeProtected then s
      else
        match m.writeTrack s.cfg v.cyl.toNat v.side.toNat (flushBytes s (flushCount s)) with
        | .ok m' => s.withDrives (s.drives.set d { v with media := some m' })
        | .error e => s.withOut { s.out with mediaError := some e }

/-- `disk_write_flush()` (R288). -/
def diskWriteFlush (s : State) : State :=
  let s1 := match readyDrive s with
    | none => s
    | some d => if flushCount s = 0 then s else flushToDrive d s
  s1.withDsk { s1.dsk with bufValid := false }

/-- `RegWrite(DSKLEN, v)` (R281). -/
def writeDsklen (v : Word) (s : State) : State :=
  if v.getLsbD 15 && s.dsk.active then s.withDsk { s.dsk with prevEn := true }
  else if v.getLsbD 15 && s.dsk.prevEn then
    let s1 := s.withDsk { s.dsk with len := v, remaining := v.extractLsb' 0 14, synced := false }
    if v.extractLsb' 0 14 = 0 then raiseIrq irqDskblk s.cfg.irqDelayDskblk s1
    else s1.withDsk { s1.dsk with active := true }
  else
    let s1 :=
      if v.getLsbD 15 then s
      else
        let s2 := if s.dsk.active && s.dsk.writing then diskWriteFlush s else s
        s2.withDsk { s2.dsk with active := false }
    s1.withDsk { s1.dsk with len := v, prevEn := v.getLsbD 15 }

/-- One word less to move; at the last one the transfer ends and the completion request is raised (R285, R288). `flush` is
the write transfer's `disk_write_flush()`. -/
def diskCountDown (flush : State → State) (s : State) : State :=
  let s := s.withDsk { s.dsk with remaining := s.dsk.remaining - 1 }
  if s.dsk.remaining = 0 then
    let s := flush s
    raiseIrq irqDskblk s.cfg.irqDelayDskblk (s.withDsk { s.dsk with active := false })
  else s

/-- `disk_read_word(d)` (R285), the track being loaded. -/
def diskReadWord (s : State) : Result :=
  let w := diskHeadWord s.dsk
  let hit := w == s.dsk.sync
  let s1 := s.withDsk { s.dsk with bufPos := diskAdvance s.cfg s.dsk.bufPos }
  let s2 := if hit then syncMatch s1 else s1
  if s.wordSync && !s.dsk.synced then
    .next (grant .disk s.dsk.pt w (s2.withDsk { s2.dsk with synced := hit }))
  else if s.wordSync && hit then .next (grant .disk s.dsk.pt w s2)
  else
    andThen (memWrite s2 s.dsk.pt w) fun s3 =>
      withPtrAdd s.dsk.pt 2 fun p =>
        .next (diskCountDown id (grant .disk s.dsk.pt w (s3.withDsk { s3.dsk with pt := p })))

/-- The buffer after a word is written under the head (R288). -/
def diskPutWord (k : Config) (w : Word) (d : Disk) : Disk :=
  { d with buf := Mem.writeWord d.buf d.bufPos.toNat w, bufPos := diskAdvance k d.bufPos }

/-- `disk_write_word(d)` (R288). -/
def diskWriteWord (s : State) : Result :=
  withMemRead s s.dsk.pt fun w =>
    withPtrAdd s.dsk.pt 2 fun p =>
      .next (diskCountDown diskWriteFlush
        (grant .disk s.dsk.pt w (s.withDsk { diskPutWord s.cfg w s.dsk with pt := p })))

/-- `disk_slot()` (R283): the slot is always claimed. -/
def diskSlot (s : State) : Result :=
  match readyDrive s with
  | none => .next (grant .disk s.dsk.pt 0 s)
  | some d =>
      let s1 := trackBufferLoad d s
      if s1.dsk.writing then diskWriteWord s1 else diskReadWord s1

/-- The disk consumer wants its slot: "gated by disk DMA enable + active transfer" (R127). -/
def diskWants (s : State) : Bool := s.dmaOn dmaDsk && s.dsk.active

/-- The disk consumer's turn at one of its colclocks (R127). -/
def diskTurnAt (s : State) : Result := if diskWants s then diskSlot s else .next s

/-- SLOT_DISK0, colclock 0x07 (R127). -/
def execSlotDisk0 (s : State) : Result := diskTurnAt s
/-- SLOT_DISK1, colclock 0x09 (R127). -/
def execSlotDisk1 (s : State) : Result := diskTurnAt s
/-- SLOT_DISK2, colclock 0x0B (R127). -/
def execSlotDisk2 (s : State) : Result := diskTurnAt s

/-- `RegRead(DSKBYTR)` (R287). -/
def dskbytrValue (s : State) : Word :=
  let x := setBit (0 : Word) 14 (s.dsk.active && s.dmaOn dmaDsk)
  let x := setBit x 13 s.dsk.writing
  setBit x 12 (dskWordEqual s)

end Sys2Proof.Machine
end

