-- ==== Sys2Proof/Machine/AudioDma.lean ====
section
/-! DEFINITION. Consumer 3, the audio channels (R128, R320 to R328), the rows SLOT_AUD0 to SLOT_AUD3, and the mixer (R330). -/

namespace Sys2Proof.Machine

/-- Channel `n`'s DMA is enabled. -/
def audOn (s : State) (n : Fin 4) : Bool := s.dmaOn (dmaAud n)

/-- The start of a channel (R321). -/
def AudioChan.start (c : AudioChan) : AudioChan :=
  { c with ptr := c.lc, wlen := c.len, dmareq := true, st := .dmaStarting }

/-- `audio_stop(n)` (R327). -/
def AudioChan.stop (c : AudioChan) : AudioChan := { c with st := .inactive, dmareq := false }

/-- The period counter of a playing channel runs out in this arbitration tick. -/
def AudioChan.periodDue (c : AudioChan) : Bool := c.percnt - 1 == 0

/-- The half-sample period elapses: second half-sample, or next word and a request for one more (R322). -/
def AudioChan.nextHalf (c : AudioChan) : AudioChan :=
  let c := { c with percnt := c.period }
  if c.st = .dmaSamp1 then { c with st := .dmaSamp2, out := secondHalf c.cur }
  else { c with st := .dmaSamp1, cur := c.dat, out := firstHalf c.dat, dmareq := true }

/-- `audio_period_tick(n)` on the channel; `on` is `dma_on(AUDnEN)` (R322). -/
def AudioChan.periodTick (on : Bool) (c : AudioChan) : AudioChan :=
  if !on then (if c.st = .inactive then c else c.stop)
  else
    match c.st with
    | .inactive => c.start
    | .dmaStarting => c
    | .dmaSamp1 => if c.periodDue then c.nextHalf else { c with percnt := c.percnt - 1 }
    | .dmaSamp2 => if c.periodDue then c.nextHalf else { c with percnt := c.percnt - 1 }

/-- The four channels' `audio_period_tick` (R121, R322). -/
def audioPeriodTicks (s : State) : State :=
  s.withAud (Vector.ofFn fun n => s.aud[n].periodTick (audOn s n))

/-- What every write of `DMACON` does to the channels whose enable is off (R327, R125). -/
def audioStopDisabled (s : State) : State :=
  s.withAud (Vector.ofFn fun n => if audOn s n || s.aud[n].st = .inactive then s.aud[n] else s.aud[n].stop)

/-- The first word of a starting channel begins to play (R324). -/
def AudioChan.firstWord (w : Word) (c : AudioChan) : AudioChan :=
  if c.st = .dmaStarting then
    { c with cur := w, out := firstHalf w, percnt := c.period, st := .dmaSamp1, dmareq := true }
  else c

/-- The channel after a fetch of `w`, `p` being its pointer plus 2; at length exhaustion it restarts (R324). -/
def AudioChan.fetched (w : Word) (p : Long) (c : AudioChan) : AudioChan :=
  let c := { c with dat := w, dmareq := false, ptr := p, wlen := c.wlen - 1 }
  let c := if c.wlen = 0 then { c with ptr := c.lc, wlen := c.len } else c
  c.firstWord w

/-- `audio_slot(n)` (R324). -/
def audioSlot (n : Fin 4) (s : State) : Result :=
  let c := s.aud[n]
  withMemRead s c.ptr fun w =>
    withPtrAdd c.ptr 2 fun p =>
      let s1 := grant .audio c.ptr w (s.withAud (s.aud.set n (c.fetched w p)))
      .next (if c.wlen - 1 = 0 then raiseIrq (irqAud n) s.cfg.irqDelayAudio s1 else s1)

/-- Channel `n` wants its slot (R128). -/
def audioWants (n : Fin 4) (s : State) : Bool := audOn s n && s.aud[n].dmareq

/-- Channel `n`'s turn at its colclock (R128). -/
def audioTurnAt (n : Fin 4) (s : State) : Result := if audioWants n s then audioSlot n s else .next s

/-- SLOT_AUD0, colclock 0x0D (R128). -/
def execSlotAud0 (s : State) : Result := audioTurnAt 0 s
/-- SLOT_AUD1, colclock 0x0F (R128). -/
def execSlotAud1 (s : State) : Result := audioTurnAt 1 s
/-- SLOT_AUD2, colclock 0x11 (R128). -/
def execSlotAud2 (s : State) : Result := audioTurnAt 2 s
/-- SLOT_AUD3, colclock 0x13 (R128). -/
def execSlotAud3 (s : State) : Result := audioTurnAt 3 s

/-! ### The mixer (R330) -/

/-- The mixer's input of a channel: `aud_out * aud_vol`, signed. -/
def AudioChan.mixInput (c : AudioChan) : Int := c.out.toInt * (c.vol.toNat : Int)

/-- `AUD_FILTER(y, x)` (R330, log 9). -/
def audFilter (k : Config) (y x : Int) : Int :=
  match k.audFilter with
  | .onePole num den => y + ((num : Int) * (x - y)) / (den : Int)
  | .other => Config.freeAudFilter y x

/-- `out(y)` (R330, log 9). -/
def audOut (k : Config) (y : Int) : Int :=
  match k.audFilter with
  | .onePole _ _ => y
  | .other => Config.freeAudOut y

/-- One step of the channel's filter. -/
def AudioChan.mix (k : Config) (c : AudioChan) : AudioChan := { c with filt := audFilter k c.filt c.mixInput }

/-- The channel's share of a sample. -/
def AudioChan.filtOut (k : Config) (c : AudioChan) : Int := audOut k c.filt

/-- The tick is one of the two instants of its line. -/
def mixDue (s : State) : Bool :=
  s.beam.hpos.toNat == s.cfg.audMixTick1 || s.beam.hpos.toNat == s.cfg.audMixTick2

/-- `audio_mix_if_due()`: channels 0 and 3 to the left, 1 and 2 to the right (R330). -/
def audioMixIfDue (s : State) : State :=
  if mixDue s then
    let aud := Vector.ofFn fun n => s.aud[n].mix s.cfg
    (s.withAud aud).withOut { s.out with
      sample := some
        (aud[0].filtOut s.cfg + aud[3].filtOut s.cfg, aud[1].filtOut s.cfg + aud[2].filtOut s.cfg) }
  else s

end Sys2Proof.Machine
end

