-- ==== Sys2Proof/Machine/BlitterEngine.lean ====
section
/-! DEFINITION. Consumer 7, the blitter (spec/42_blitter.md): start, area and fill modes, line mode, completion, and the rows
BLT_AREA, BLT_FILL_INCLUSIVE, BLT_FILL_EXCLUSIVE and BLT_LINE. -/

namespace Sys2Proof.Machine

/-! ### Channel pointers and modulos (R23) -/

/-- `bltpt[X]`. -/
def Blitter.pt (b : Blitter) : BltChan → Long
  | .a => b.apt
  | .b => b.bpt
  | .c => b.cpt
  | .d => b.dpt

/-- `bltpt[X]` replaced. -/
def Blitter.setPt (b : Blitter) (x : BltChan) (p : Long) : Blitter :=
  match x with
  | .a => { b with apt := p }
  | .b => { b with bpt := p }
  | .c => { b with cpt := p }
  | .d => { b with dpt := p }

/-- `bltmod[X]`. -/
def Blitter.mod (b : Blitter) : BltChan → Word
  | .a => b.amod
  | .b => b.bmod
  | .c => b.cmod
  | .d => b.dmod

/-- `bltmod[X]` replaced. -/
def Blitter.setMod (b : Blitter) (x : BltChan) (v : Word) : Blitter :=
  match x with
  | .a => { b with amod := v }
  | .b => { b with bmod := v }
  | .c => { b with cmod := v }
  | .d => { b with dmod := v }

/-! ### Start (R203, R204) -/

/-- What a write of `v` to the size register does to a stopped blitter (R203). -/
def Blitter.startBlit (k : Config) (v : Word) (b : Blitter) : Blitter :=
  { b with
    height := sizeHeight v
    width := sizeWidth v
    w := sizeWidth v
    h := sizeHeight v
    phase := 0
    dpending := false
    dlast := false
    aold := 0
    bold := 0
    fillCarry := bltFci b.con1
    zero := true
    busy := true
    dotThisLine := false
    sign := bltSignBit b.con1
    bhold := if bltLineBit b.con1 then rotr16 b.bdat (bltBsh b.con1) else b.bhold
    startCount := k.bltStartDelay
    st := .starting }

/-- `blitter_start_tick()` (R204). -/
def blitterStartTick (s : State) : State :=
  if s.blt.st = .starting then
    if s.blt.startCount = 0 then s.withBlt { s.blt with st := .running }
    else s.withBlt { s.blt with startCount := s.blt.startCount - 1 }
  else s

/-- What a word arriving on channel B does, fetched or written to its data register (R208, R209). -/
def Blitter.takeB (bsh : BitVec 4) (desc : Bool) (w : Word) (b : Blitter) : Blitter :=
  { b with bdat := w, bhold := barrel w b.bold bsh desc, bold := w }

/-! ### Completion (R221, R222) -/

/-- `enter_final()` (R221). -/
def enterFinal (s : State) : State :=
  raiseIrq irqBlit bltDoneIrqDelay (s.withBlt { s.blt with st := .final, busy := false })

/-! ### Pointer steps -/

/-- `bltpt[X] <- bltpt[X] + 2 dir`, plus the modulo at a row end: the sum after each addition must fit (R209, R212, R80). -/
def withAreaStep (b : Blitter) (x : BltChan) (desc rowEnd : Bool) (k : Long → Result) : Result :=
  withPtrAdd (b.pt x) (2 * bltDir desc) fun p =>
    if rowEnd then withPtrAdd p (bltDir desc * sext16 (b.mod x)) k else k p

/-! ### Area mode (R209 to R214) -/

/-- The word of an A, B or C fetch put where it belongs (R209). -/
def Blitter.takeFetched (m : BltMode) (x : BltChan) (w : Word) (b : Blitter) : Blitter :=
  match x with
  | .a => { b with adat := w }
  | .b => b.takeB m.bsh m.desc w
  | .c => { b with cdat := w }
  | .d => b

/-- `blt_fetch(X)` (R209). -/
def bltFetch (m : BltMode) (x : BltChan) (s : State) : Result :=
  withMemRead s (s.blt.pt x) fun w =>
    withAreaStep s.blt x m.desc (s.blt.w == 1) fun p =>
      .next (grant .blitter (s.blt.pt x) w (s.withBlt ((s.blt.setPt x p).takeFetched m x w)))

/-- `blt_write_d()` (R212). -/
def bltWriteD (desc : Bool) (s : State) : Result :=
  andThen (memWrite s s.blt.dpt s.blt.ddat) fun s1 =>
    withAreaStep s.blt .d desc s.blt.dlast fun p =>
      .next (grant .blitter s.blt.dpt s.blt.ddat (s1.withBlt { s.blt with dpt := p, dpending := false }))

/-- Source A after the first and last word masks (R211). -/
def Blitter.maskedA (b : Blitter) : Word :=
  let a := if b.w = b.width then b.adat &&& b.afwm else b.adat
  if b.w = 1 then a &&& b.alwm else a

/-- The shifted A operand of the word that ends (R211). -/
def Blitter.shiftedA (m : BltMode) (b : Blitter) : Word := barrel b.maskedA b.aold (bltAsh b.con0) m.desc

/-- The minterm result of the word that ends, before fill (R211). -/
def Blitter.rawWord (m : BltMode) (b : Blitter) : Word := minterm (bltLf b.con0) (b.shiftedA m) b.bhold b.cdat

/-- The result word and the fill carry after it (R211, R213). -/
def Blitter.resultWord (m : BltMode) (b : Blitter) : Word × Bool :=
  if m.efe || m.ife then fillWord m.efe b.fillCarry (b.rawWord m) else (b.rawWord m, b.fillCarry)

/-- `complete_word()` up to the row step (R211). -/
def Blitter.computeWord (m : BltMode) (b : Blitter) : Blitter :=
  let r := b.resultWord m
  let b1 := { b with
    ahold := b.shiftedA m
    aold := b.maskedA
    fillCarry := r.2
    zero := zeroAfter b.zero r.1 }
  if useD b.con0 then { b1 with ddat := r.1, dpending := true, dlast := decide (b.w = 1) } else b1

/-- `row_advance()` (R214). -/
def rowAdvance (m : BltMode) (s : State) : State :=
  let b := s.blt
  if b.w - 1 = 0 then
    let s1 := s.withBlt { b with w := b.width, h := b.h - 1, fillCarry := m.fci }
    if b.h - 1 = 0 then enterFinal s1 else s1
  else s.withBlt { b with w := b.w - 1 }

/-- `complete_word()` (R211). -/
def completeWord (m : BltMode) (s : State) : State := rowAdvance m (s.withBlt (s.blt.computeWord m))

/-- The slot of a phase in area mode (R207). -/
def areaSlot (m : BltMode) (ph : BltPhase) (s : State) : Result :=
  match ph with
  | .a => bltFetch m .a s
  | .b => bltFetch m .b s
  | .c => bltFetch m .c s
  | .d => bltWriteD m.desc s
  | .idle => .next s

/-- A phase of area mode needs the bus: A, B, C, or D with a word pending (R206, R132). -/
def areaNeeds (ph : BltPhase) (b : Blitter) : Bool :=
  match ph with
  | .a => true
  | .b => true
  | .c => true
  | .d => b.dpending
  | .idle => false

/-! ### Line mode (R215 to R219) -/

/-- `line_fetch_c()` (R216). -/
def lineFetchC (s : State) : Result :=
  withMemRead s s.blt.cpt fun w =>
    .next (grant .blitter s.blt.cpt w (if useC s.blt.con0 then s.withBlt { s.blt with cdat := w } else s))

/-- The A operand of a dot: the single dot at position `ASH`, suppressed by the one-dot-per-line flag (R217, R218). -/
def Blitter.dotA (m : LineMode) (b : Blitter) : Word :=
  if m.sing && b.dotThisLine then 0 else (b.adat &&& b.afwm) >>> (bltAsh b.con0).toNat

/-- The B operand of a dot: the texture bit in every position (R217). -/
def Blitter.dotB (b : Blitter) : Word := if b.bhold.getLsbD 0 then 0xFFFF else 0

/-- The word a dot writes (R217). -/
def Blitter.dotWord (m : LineMode) (b : Blitter) : Word := minterm (bltLf b.con0) (b.dotA m) b.dotB b.cdat

/-- `line_write_d()` (R217): without `USED` the slot is claimed and nothing is written. -/
def lineWriteD (m : LineMode) (s : State) : Result :=
  let d := s.blt.dotWord m
  andThen (if useD s.blt.con0 then memWrite s s.blt.dpt d else .next s) fun s1 =>
    .next (grant .blitter s.blt.dpt d
      (s1.withBlt { s.blt with dotThisLine := true, zero := zeroAfter s.blt.zero d, ddat := d }))

/-- `incx` (R219). -/
def lineIncX (b : Blitter) (k : Blitter → Result) : Result :=
  let a := bltAsh b.con0 + 1
  let b1 := { b with con0 := withAsh b.con0 a }
  if a = 0 then withPtrAdd b.cpt 2 fun p => k { b1 with cpt := p } else k b1

/-- `decx` (R219). -/
def lineDecX (b : Blitter) (k : Blitter → Result) : Result :=
  let b1 := { b with con0 := withAsh b.con0 (bltAsh b.con0 - 1) }
  if bltAsh b.con0 = 0 then withPtrAdd b.cpt (-2) fun p => k { b1 with cpt := p } else k b1

/-- `incy` (R219). -/
def lineIncY (b : Blitter) (k : Blitter → Result) : Result :=
  withPtrAdd b.cpt (sext16 b.cmod) fun p => k { b with cpt := p, dotThisLine := false }

/-- `decy` (R219). -/
def lineDecY (b : Blitter) (k : Blitter → Result) : Result :=
  withPtrAdd b.cpt (-(sext16 b.cmod)) fun p => k { b with cpt := p, dotThisLine := false }

/-- `decx` or `incx`. -/
def lineStepX (neg : Bool) (b : Blitter) (k : Blitter → Result) : Result := if neg then lineDecX b k else lineIncX b k

/-- `decy` or `incy`. -/
def lineStepY (neg : Bool) (b : Blitter) (k : Blitter → Result) : Result := if neg then lineDecY b k else lineIncY b k

/-- The error accumulator in `bltpt[A]` after a dot: in line mode it is no DMA pointer, so it adds modulo 2^32 (R219, R215,
R6; log 10). -/
def Blitter.errorStep (b : Blitter) : Blitter :=
  if useA b.con0 then { b with apt := b.apt + (if b.sign then b.bmod.signExtend 32 else b.amod.signExtend 32) } else b

/-- The step that a non-negative error adds, across the line's main direction (R219). -/
def lineMinorStep (m : LineMode) (b : Blitter) (k : Blitter → Result) : Result :=
  if b.sign then k b
  else if m.sud then lineStepY m.sul b k
  else lineStepX m.sul b k

/-- The step along the line's main direction (R219). -/
def lineMajorStep (m : LineMode) (b : Blitter) (k : Blitter → Result) : Result :=
  if m.sud then lineStepX m.aul b k else lineStepY m.aul b k

/-- The rest of `complete_dot()`: sign, texture, `bltpt[D]` and the dots left (R219). -/
def lineFinish (s : State) (b : Blitter) : State :=
  let s1 := s.withBlt { b with
    sign := lineSign b.apt
    bhold := rotl16One b.bhold
    dpt := b.cpt
    h := b.h - 1 }
  if b.h - 1 = 0 then enterFinal s1 else s1

/-- `complete_dot()` (R219). -/
def completeDot (m : LineMode) (s : State) : Result :=
  lineMinorStep m s.blt.errorStep fun b1 => lineMajorStep m b1 fun b2 => .next (lineFinish s b2)

/-- The slot of a phase in line mode (R207). -/
def lineSlot (m : LineMode) (ph : BltPhase) (s : State) : Result :=
  match ph with
  | .a => lineFetchC s
  | .b => lineFetchC s
  | .c => lineFetchC s
  | .d => lineWriteD m s
  | .idle => .next s

/-- A phase of line mode needs the bus: every one but an idle phase (R206). -/
def lineNeeds (ph : BltPhase) : Bool := ph != .idle

/-! ### The turn of a running blitter (R206) -/

/-- The sequencer moved on by one phase; at the end of the pattern the period ends (R206). -/
def phaseAdvance (n : Nat) (complete : State → Result) (s : State) : Result :=
  if s.blt.phase.toNat + 1 = n then complete (s.withBlt { s.blt with phase := 0 })
  else .next (s.withBlt { s.blt with phase := s.blt.phase + 1 })

/-- One turn under a pattern: a phase that needs the bus and is refused changes nothing; else its slot, if it needs one, and
the next phase (R206). -/
def patternTurn (pat : List BltPhase) (needs : BltPhase → Bool) (slot : BltPhase → State → Result)
    (complete : State → Result) (s : State) : Result :=
  match pat[s.blt.phase.toNat]? with
  | none => .fault .unreachableCycleEntry
  | some ph =>
      if needs ph then
        if busOk s then andThen (slot ph s) (phaseAdvance pat.length complete) else .next s
      else phaseAdvance pat.length complete s

/-- The turn in an area mode (R206 to R214). -/
def areaTurn (m : BltMode) (s : State) : Result :=
  patternTurn (areaPattern s m) (fun ph => areaNeeds ph s.blt) (areaSlot m) (fun s => .next (completeWord m s)) s

/-- The turn in line mode (R206, R215 to R219). -/
def lineTurn (m : LineMode) (s : State) : Result :=
  patternTurn s.cfg.linePattern lineNeeds (lineSlot m) (completeDot m) s

/-- BLT_AREA (R211). -/
def execBltArea (bsh : BitVec 4) (fci desc : Bool) (s : State) : Result := areaTurn ⟨bsh, false, false, fci, desc⟩ s

/-- BLT_FILL_INCLUSIVE (R213). -/
def execBltFillInclusive (bsh : BitVec 4) (fci desc : Bool) (s : State) : Result := areaTurn ⟨bsh, false, true, fci, desc⟩ s

/-- BLT_FILL_EXCLUSIVE (R213): exclusive wins when both fill bits are set (D22). -/
def execBltFillExclusive (bsh : BitVec 4) (ife fci desc : Bool) (s : State) : Result := areaTurn ⟨bsh, true, ife, fci, desc⟩ s

/-- BLT_LINE (R215). -/
def execBltLine (bsh : BitVec 4) (sign sud sul aul sing : Bool) (s : State) : Result :=
  lineTurn ⟨bsh, sign, sud, sul, aul, sing⟩ s

/-- `final_turn(bus_ok)`: the last pending word is written with the direction `bltcon1` has then (R222, R212). -/
def finalTurn (s : State) : Result :=
  if s.blt.dpending then
    if busOk s then
      andThen (bltWriteD (bltDesc s.blt.con1) s) fun s1 => .next (s1.withBlt { s1.blt with st := .stopped })
    else .next s
  else .next (s.withBlt { s.blt with st := .stopped })

end Sys2Proof.Machine
end

