-- ==== Sys2Proof/Machine/Registers.lean ====
section
/-! DEFINITION. The chip register file (R31, R32): the write rule of every register with direction W or S (R66), the value
of every register with direction R (R67, R68), and what an access without a target does (R69). -/

namespace Sys2Proof.Machine

/-! ### The set/clear convention (R16, R76) -/

/-- A set/clear write of `v` to a register with writable bits `mask` (R16). -/
def setClear {w : Nat} (mask old : BitVec w) (v : Word) : BitVec w :=
  if v.getLsbD 15 then old ||| (v.setWidth w &&& mask) else old &&& ~~~(v.setWidth w &&& mask)

/-- Writable bits of `DMACON` (R16). -/
def dmaconMask : Word := 0x07FF
/-- Writable bits of `INTENA` (R16). -/
def intenaMask : BitVec 15 := 0x7FFF
/-- Writable bits of `INTREQ` (R16). -/
def intreqMask : BitVec 14 := 0x3FFF
/-- Writable bits of `ADKCON` (R16). -/
def adkconMask : BitVec 15 := 0x7FFF

/-- `RegWrite(DMACON, v)`: effective from the next test of an enable on; an audio channel whose enable goes off stops at once
(R125, R327). -/
def writeDmacon (v : Word) (s : State) : State :=
  audioStopDisabled (s.withDmacon (setClear dmaconMask s.dmacon v))

/-- `RegWrite(INTENA, v)` (R373). -/
def writeIntena (v : Word) (s : State) : State :=
  s.withIrq { s.irq with intena := setClear intenaMask s.irq.intena v }

/-- `RegWrite(INTREQ, v)`: the bits change at once; a countdown in progress goes on (R373). -/
def writeIntreq (v : Word) (s : State) : State :=
  s.withIrq { s.irq with intreq := setClear intreqMask s.irq.intreq v }

/-- `RegWrite(ADKCON, v)` (R16). -/
def writeAdkcon (v : Word) (s : State) : State := s.withAdkcon (setClear adkconMask s.adkcon v)

/-! ### Blitter registers (R203, R208, U3) -/

/-- A write of a blitter register other than the size register: refused while the blitter is busy (U3). -/
def writeBlitter (f : Blitter → Blitter) (s : State) : Result :=
  if s.blt.busy then .refused .blitterRegisterBusy else .next (s.withBlt (f s.blt))

/-- `RegWrite(BLTSIZE, v)`: starts a stopped blitter (R203); else refused (U3). -/
def writeBltsize (v : Word) (s : State) : Result :=
  if s.blt.st = .stopped then .next (s.withBlt (s.blt.startBlit s.cfg v)) else .refused .blitterRegisterBusy

/-- `RegWrite(BLTBDAT, v)`: the word goes through the B shifter as a fetched word does (R208). -/
def Blitter.writeBdat (v : Word) (b : Blitter) : Blitter := b.takeB (bltBsh b.con1) (bltDesc b.con1) v

/-! ### Registers of a numbered unit -/

/-- Sprite `n` changed. -/
def State.mapSpr (s : State) (n : Fin 8) (f : Sprite → Sprite) : State := s.withSpr (s.spr.set n (f s.spr[n]))

/-- Audio channel `n` changed. -/
def State.mapAud (s : State) (n : Fin 4) (f : AudioChan → AudioChan) : State := s.withAud (s.aud.set n (f s.aud[n]))

/-- The pointer of the plane with index `p` replaced. -/
def State.setBplpt (s : State) (p : Fin 6) (a : Long) : State := s.withBpl { s.bpl with pt := s.bpl.pt.set p a }

/-- `RegWrite(BPLpDAT, v)`: stored; the write of plane 1 arms the latch of both groups (R172). -/
def Bitplane.writeDat (k : Config) (p : Fin 6) (v : Word) (b : Bitplane) : Bitplane :=
  let b := { b with dat := b.dat.set p v }
  if p = 0 then
    { b with
      pendingOdd := true
      dueOdd := latchDelay k b.scrollOdd b.hires
      pendingEven := true
      dueEven := latchDelay k b.scrollEven b.hires }
  else b

/-- `RegWrite(SPRnCTL, v)`: stored, and the sprite is disarmed (R181). -/
def Sprite.writeCtl (v : Word) (p : Sprite) : Sprite := { p with ctl := v, armed := false }

/-- `RegWrite(SPRnDATA, v)`: stored, and the sprite is armed (R181). -/
def Sprite.writeData (v : Word) (p : Sprite) : Sprite := { p with data := v, armed := true }

/-! ### The write rule of every register (R66) -/

/-- The write rule of a named register; a write to a read-only register is dropped (R66, R69). -/
def regWriteReg (r : Reg) (v : Word) (s : State) : Result :=
  match r with
  | .dmaconr => .next s
  | .vposr => .next s
  | .vhposr => .next s
  | .adkconr => .next s
  | .dskbytr => .next s
  | .intenar => .next s
  | .intreqr => .next s
  | .dskpth => .next (s.withDsk { s.dsk with pt := setHigh s.dsk.pt v })
  | .dskptl => .next (s.withDsk { s.dsk with pt := setLow s.dsk.pt v })
  | .dsklen => .next (writeDsklen v s)
  | .copcon => .next (s.withCop { s.cop with con := v })
  | .bltcon0 => writeBlitter (fun b => { b with con0 := v }) s
  | .bltcon1 => writeBlitter (fun b => { b with con1 := v }) s
  | .bltafwm => writeBlitter (fun b => { b with afwm := v }) s
  | .bltalwm => writeBlitter (fun b => { b with alwm := v }) s
  | .bltpth x => writeBlitter (fun b => b.setPt x (setHigh (b.pt x) v)) s
  | .bltptl x => writeBlitter (fun b => b.setPt x (setLow (b.pt x) v)) s
  | .bltsize => writeBltsize v s
  | .bltmod x => writeBlitter (fun b => b.setMod x v) s
  | .bltcdat => writeBlitter (fun b => { b with cdat := v }) s
  | .bltbdat => writeBlitter (Blitter.writeBdat v) s
  | .bltadat => writeBlitter (fun b => { b with adat := v }) s
  | .dsksync => .next (s.withDsk { s.dsk with sync := v })
  | .cop1lch => .next (s.withCop { s.cop with lc1 := setHigh s.cop.lc1 v })
  | .cop1lcl => .next (s.withCop { s.cop with lc1 := setLow s.cop.lc1 v })
  | .cop2lch => .next (s.withCop { s.cop with lc2 := setHigh s.cop.lc2 v })
  | .cop2lcl => .next (s.withCop { s.cop with lc2 := setLow s.cop.lc2 v })
  | .copjmp1 => .next (copperJump false s)
  | .copjmp2 => .next (copperJump true s)
  | .diwstrt => .next (s.withBpl { s.bpl with diwstrt := v })
  | .diwstop => .next (s.withBpl { s.bpl with diwstop := v })
  | .ddfstrt => .next (s.withBpl { s.bpl with ddfstrt := v })
  | .ddfstop => .next (s.withBpl { s.bpl with ddfstop := v })
  | .dmacon => .next (writeDmacon v s)
  | .intena => .next (writeIntena v s)
  | .intreq => .next (writeIntreq v s)
  | .adkcon => .next (writeAdkcon v s)
  | .audlch n => .next (s.mapAud n fun c => { c with lc := setHigh c.lc v })
  | .audlcl n => .next (s.mapAud n fun c => { c with lc := setLow c.lc v })
  | .audlen n => .next (s.mapAud n fun c => { c with len := v })
  | .audper n => .next (s.mapAud n fun c => { c with per := v })
  | .audvol n => .next (s.mapAud n fun c => { c with vol := volumeOf v })
  | .auddat n => .next (s.mapAud n fun c => { c with dat := v })
  | .bplpth p => .next (s.setBplpt p (setHigh s.bpl.pt[p] v))
  | .bplptl p => .next (s.setBplpt p (setLow s.bpl.pt[p] v))
  | .bplcon0 => .next (s.withBpl { s.bpl with con0 := v })
  | .bplcon1 => .next (s.withBpl { s.bpl with con1 := v })
  | .bplcon2 => .next (s.withBpl { s.bpl with con2 := v })
  | .bpl1mod => .next (s.withBpl { s.bpl with mod1 := v })
  | .bpl2mod => .next (s.withBpl { s.bpl with mod2 := v })
  | .bpldat p => .next (s.withBpl (s.bpl.writeDat s.cfg p v))
  | .sprpth n => .next (s.mapSpr n fun p => { p with pt := setHigh p.pt v })
  | .sprptl n => .next (s.mapSpr n fun p => { p with pt := setLow p.pt v })
  | .sprpos n => .next (s.mapSpr n fun p => { p with pos := v })
  | .sprctl n => .next (s.mapSpr n (Sprite.writeCtl v))
  | .sprdata n => .next (s.mapSpr n (Sprite.writeData v))
  | .sprdatb n => .next (s.mapSpr n fun p => { p with datb := v })
  | .color i => .next (s.withColor (s.color.set i (v.extractLsb' 0 12)))

/-- `RegWrite(off, v)`, whoever writes (R66); no register at the offset: dropped (R69). -/
def regWrite (off v : Word) (s : State) : Result :=
  match regAt s.cfg off with
  | some r => regWriteReg r v s
  | none => .next s

/-! ### Register reads (R67, R68, R287, R373) -/

/-- `DMACONR`: bit 14 the busy flag, bit 13 the zero flag (R15). -/
def dmaconrValue (s : State) : Word := setBit (setBit (s.dmacon &&& dmaconMask) 14 s.blt.busy) 13 s.blt.zero

/-- `VPOSR` (R68). -/
def vposrValue (s : State) : Word := BitVec.ofBool s.beam.lof ++ (0 : BitVec 14) ++ s.beam.vpos.extractLsb' 8 1

/-- `VHPOSR` (R68). -/
def vhposrValue (s : State) : Word := s.beam.vpos.extractLsb' 0 8 ++ s.cc.extractLsb' 0 8

/-- The value of a register with direction R; a register with another direction has none (R67). -/
def regValue (r : Reg) (s : State) : Option Word :=
  match r with
  | .dmaconr => some (dmaconrValue s)
  | .vposr => some (vposrValue s)
  | .vhposr => some (vhposrValue s)
  | .adkconr => some (s.adkcon.setWidth 16)
  | .dskbytr => some (dskbytrValue s)
  | .intenar => some (s.irq.intena.setWidth 16)
  | .intreqr => some (s.irq.intreq.setWidth 16)
  | _ => none

/-- `RegRead(off)`: the filler where no register with direction R is; no state changes (R67, R69). -/
def regRead (off : Word) (s : State) : Word :=
  match regAt s.cfg off with
  | some r => (regValue r s).getD s.cfg.regFiller
  | none => s.cfg.regFiller

end Sys2Proof.Machine
end

