-- ==== Sys2Proof/Machine/BitplaneDma.lean ====
section
/-! DEFINITION. Consumer 4, bitplane fetch, and the display pipeline behind it (R129, R160 to R174). -/

namespace Sys2Proof.Machine

/-! ### The data-fetch window (R166) -/

/-- `ddf_track(cc)` (R166). -/
def ddfTrack (s : State) : State :=
  let b := s.bpl
  let cc := s.cc.toNat
  if b.ddfOpen then
    let b := { b with ddfPos := b.ddfPos + 1 }
    if b.ddfPos.extractLsb' 0 3 = 0 then
      if b.ddfLast then s.withBpl { b with ddfOpen := false, ddfLast := false }
      else if ddfStop s ≤ cc then s.withBpl { b with ddfLast := true }
      else s.withBpl b
    else s.withBpl b
  else if cc = ddfStart s then
    s.withBpl { b with ddfOpen := true, ddfPos := 0, ddfLast := decide (ddfStop s ≤ cc) }
  else s

/-- The bitplane's part of `line_start()`: the window closes; pending data and shift registers stay (R171). -/
def Bitplane.lineStart (b : Bitplane) : Bitplane := { b with ddfOpen := false, ddfPos := 0, ddfLast := false }

/-! ### Fetch (R167 to R170) -/

/-- The vertical window, the enable and the data-fetch window let a plane be fetched (R129, R167). -/
def bitplaneFetching (s : State) : Bool := vdiwOpen s && s.dmaOn dmaBpl && s.bpl.ddfOpen

/-- The plane the bitplane consumer wants to fetch in this slot, by index, if it wants the bus (R129, R167). -/
def wantedPlane (s : State) : Option (Fin 6) :=
  if bitplaneFetching s then
    if h : 1 ≤ (planeAt s).val ∧ (planeAt s).val ≤ s.bpl.planes then
      some ⟨(planeAt s).val - 1, by have := (planeAt s).isLt; omega⟩
    else none
  else none

/-- `final_fetch(p)`: the last unit of the line and, in high resolution, its second group (R170). -/
def Bitplane.finalFetch (b : Bitplane) : Bool := b.ddfLast && (!b.hires || b.ddfPos.getLsbD 2)

/-- The modulo of the plane with index `p`: the first register for the odd planes, the second for the even ones (R170). -/
def Bitplane.modulo (b : Bitplane) (p : Fin 6) : Word := if oddPlane p then b.mod1 else b.mod2

/-- The pointer after a fetch: 2 added, and the modulo at the final fetch of the line (R169, R170, R80). -/
def withPlaneStep (b : Bitplane) (p : Fin 6) (k : Long → Result) : Result :=
  withPtrAdd b.pt[p] 2 fun a => if b.finalFetch then withPtrAdd a (sext16 (b.modulo p)) k else k a

/-- `bitplane_slot(p)` (R169): the word goes through the register write of `BPLpDAT`. -/
def bitplaneSlot (p : Fin 6) (s : State) : Result :=
  withMemRead s s.bpl.pt[p] fun w =>
    withPlaneStep s.bpl p fun a =>
      andThen (regWriteReg (.bpldat p) w (s.setBplpt p a)) fun s1 => .next (grant .bitplane s.bpl.pt[p] w s1)

/-- `bitplane_turn(cc)` (R167). -/
def bitplaneTurn (s : State) : Result :=
  match wantedPlane s with
  | some p => bitplaneSlot p s
  | none => .next s

/-! ### Shift and latch (R173, R174) -/

/-- Bits shifted out in a tick: two in high resolution, one in low (R173). -/
def Bitplane.rate (b : Bitplane) : Nat := if b.hires then 2 else 1

/-- The bit of the plane with index `p` at sub-pixel `sub`; 0 for a plane above the plane count (R173). -/
def Bitplane.pixelBit (b : Bitplane) (sub : Nat) (p : Fin 6) : Bool :=
  decide (p.val < b.planes) && b.shift[p].getLsbD (15 - sub)

/-- `pf[sub]`: the playfield index, plane 1 lowest (R173, R104). -/
def Bitplane.pixelIndex (b : Bitplane) (sub : Nat) : BitVec 6 :=
  BitVec.ofBool (b.pixelBit sub 5) ++ BitVec.ofBool (b.pixelBit sub 4) ++ BitVec.ofBool (b.pixelBit sub 3)
    ++ BitVec.ofBool (b.pixelBit sub 2) ++ BitVec.ofBool (b.pixelBit sub 1) ++ BitVec.ofBool (b.pixelBit sub 0)

/-- The playfield indices of the tick, sampled before the shift (R173, D5). -/
def playfield (s : State) : List (BitVec 6) := (List.range s.bpl.rate).map s.bpl.pixelIndex

/-- `bitplane_shift_out()`, the shift (R173). -/
def Bitplane.shiftOut (b : Bitplane) : Bitplane := { b with shift := Vector.ofFn fun p => b.shift[p] <<< b.rate }

/-- The shift registers of one group loaded from the data registers. -/
def Bitplane.latchGroup (odd : Bool) (b : Bitplane) : Bitplane :=
  { b with shift := Vector.ofFn fun p : Fin 6 => if oddPlane p = odd then b.dat[p] else b.shift[p] }

/-- The odd group's part of `bitplane_latch_if_due()` (R174). -/
def Bitplane.latchOdd (b : Bitplane) : Bitplane :=
  if b.pendingOdd then
    if b.dueOdd = 0 then { b.latchGroup true with pendingOdd := false } else { b with dueOdd := b.dueOdd - 1 }
  else b

/-- The even group's part of `bitplane_latch_if_due()` (R174). -/
def Bitplane.latchEven (b : Bitplane) : Bitplane :=
  if b.pendingEven then
    if b.dueEven = 0 then { b.latchGroup false with pendingEven := false } else { b with dueEven := b.dueEven - 1 }
  else b

/-- `bitplane_shift_out()` and `bitplane_latch_if_due()` (R173, R174). -/
def bitplaneShiftAndLatch (s : State) : State := s.withBpl s.bpl.shiftOut.latchOdd.latchEven

end Sys2Proof.Machine
end

