-- ==== Sys2Proof/Machine/SpriteDma.lean ====
section
/-! DEFINITION. Consumer 5, sprite DMA (R130, R177, R178), the rows SLOT_SPR0_W0 to SLOT_SPR7_W1, the sprite's vertical and
horizontal comparison (R179, R182) and pixel output (R184, R186). -/

namespace Sys2Proof.Machine

/-! ### Fetch (R177, R178) -/

/-- The register that word `k` of sprite `n` goes to: position and control words, or the two data words (R178). -/
def spriteReg (n : Fin 8) (k : Fin 2) (st : SprDmaState) : Reg :=
  match st, k with
  | .fetchCtl, 0 => .sprpos n
  | .fetchCtl, 1 => .sprctl n
  | _, 0 => .sprdata n
  | _, 1 => .sprdatb n

/-- The DMA state after word `k`: the control word ends the control fetch (R178). -/
def spriteDmaAfter (k : Fin 2) (st : SprDmaState) : SprDmaState := if st = .fetchCtl ∧ k = 1 then .idle else st

/-- `sprite_slot(n, k)` (R178): the word goes through the register write. -/
def spriteSlot (n : Fin 8) (k : Fin 2) (s : State) : Result :=
  let p := s.spr[n]
  withMemRead s p.pt fun w =>
    withPtrAdd p.pt 2 fun a =>
      andThen (regWriteReg (spriteReg n k p.dma) w (s.mapSpr n fun p => { p with pt := a })) fun s1 =>
        .next (grant .sprite p.pt w (s1.mapSpr n fun q => { q with dma := spriteDmaAfter k p.dma }))

/-- Sprite `n` wants its slots (R130, R177). -/
def spriteWants (n : Fin 8) (s : State) : Bool := s.dmaOn dmaSpr && s.spr[n].dma != .idle

/-- The sprite consumer's turn at the colclock of word `k` of sprite `n` (R177). -/
def spriteTurnAt (n : Fin 8) (k : Fin 2) (s : State) : Result := if spriteWants n s then spriteSlot n k s else .next s

/-- SLOT_SPR0_W0, colclock 0x15 (R130). -/
def execSlotSpr0W0 (s : State) : Result := spriteTurnAt 0 0 s
/-- SLOT_SPR0_W1, colclock 0x17 (R130). -/
def execSlotSpr0W1 (s : State) : Result := spriteTurnAt 0 1 s
/-- SLOT_SPR1_W0, colclock 0x19 (R130). -/
def execSlotSpr1W0 (s : State) : Result := spriteTurnAt 1 0 s
/-- SLOT_SPR1_W1, colclock 0x1B (R130). -/
def execSlotSpr1W1 (s : State) : Result := spriteTurnAt 1 1 s
/-- SLOT_SPR2_W0, colclock 0x1D (R130). -/
def execSlotSpr2W0 (s : State) : Result := spriteTurnAt 2 0 s
/-- SLOT_SPR2_W1, colclock 0x1F (R130). -/
def execSlotSpr2W1 (s : State) : Result := spriteTurnAt 2 1 s
/-- SLOT_SPR3_W0, colclock 0x21 (R130). -/
def execSlotSpr3W0 (s : State) : Result := spriteTurnAt 3 0 s
/-- SLOT_SPR3_W1, colclock 0x23 (R130). -/
def execSlotSpr3W1 (s : State) : Result := spriteTurnAt 3 1 s
/-- SLOT_SPR4_W0, colclock 0x25 (R130). -/
def execSlotSpr4W0 (s : State) : Result := spriteTurnAt 4 0 s
/-- SLOT_SPR4_W1, colclock 0x27 (R130). -/
def execSlotSpr4W1 (s : State) : Result := spriteTurnAt 4 1 s
/-- SLOT_SPR5_W0, colclock 0x29 (R130). -/
def execSlotSpr5W0 (s : State) : Result := spriteTurnAt 5 0 s
/-- SLOT_SPR5_W1, colclock 0x2B (R130). -/
def execSlotSpr5W1 (s : State) : Result := spriteTurnAt 5 1 s
/-- SLOT_SPR6_W0, colclock 0x2D (R130). -/
def execSlotSpr6W0 (s : State) : Result := spriteTurnAt 6 0 s
/-- SLOT_SPR6_W1, colclock 0x2F (R130). -/
def execSlotSpr6W1 (s : State) : Result := spriteTurnAt 6 1 s
/-- SLOT_SPR7_W0, colclock 0x31 (R130). -/
def execSlotSpr7W0 (s : State) : Result := spriteTurnAt 7 0 s
/-- SLOT_SPR7_W1, colclock 0x33 (R130). -/
def execSlotSpr7W1 (s : State) : Result := spriteTurnAt 7 1 s

/-! ### Comparison (R179, R182) -/

/-- `sprite_vertical_check(n)` with the new line (R179). -/
def Sprite.verticalCheck (vpos : Word) (p : Sprite) : Sprite :=
  if p.dma = .fetchCtl then p
  else if vpos.extractLsb' 0 9 = p.vstop then { p with dma := .fetchCtl }
  else if vpos.extractLsb' 0 9 = p.vstart then { p with dma := .fetchData }
  else p

/-- The sprites' part of `line_start()` (R171). -/
def Sprite.lineStart (vpos : Word) (p : Sprite) : Sprite := { p with active := false }.verticalCheck vpos

/-- The comparison with the horizontal start: a match loads the hold registers and starts the display (R182). -/
def Sprite.compare (hpos : Word) (p : Sprite) : Sprite :=
  if p.armed && hpos == p.hstart.setWidth 16 then { p with holdA := p.data, holdB := p.datb, active := true } else p

/-- `sv[n]`: the two bits at the output of the hold registers, 0 when the sprite is not active (R182). -/
def Sprite.pixelValue (p : Sprite) : BitVec 2 :=
  if p.active then p.holdB.extractLsb' 15 1 ++ p.holdA.extractLsb' 15 1 else 0

/-- The hold registers shifted while active (R182). -/
def Sprite.shiftHold (p : Sprite) : Sprite := if p.active then { p with holdA := p.holdA <<< 1, holdB := p.holdB <<< 1 } else p

/-- `sv` of the tick, transient (R182). -/
def spritePixels (s : State) : Vector (BitVec 2) 8 := Vector.ofFn fun n => (s.spr[n].compare s.beam.hpos).pixelValue

/-- `sprite_compare_and_shift()` (R182). -/
def spriteCompareAndShift (s : State) : State :=
  s.withSpr (Vector.ofFn fun n => (s.spr[n].compare s.beam.hpos).shiftHold)

/-! ### Pixel output (R184, R186) -/

/-- The sprites in order. -/
def spriteIds : List (Fin 8) := [0, 1, 2, 3, 4, 5, 6, 7]

/-- `sprite_in_front(n)` (R186). -/
def spriteInFront (b : Bitplane) (n : Fin 8) : Bool := decide (n.val / 2 < (b.con2.extractLsb' 3 3).toNat)

/-- The colour register a visible sprite pixel shows: `16 + 4 * (n >> 1) + sv[n]` (R184). -/
def spriteColor (n : Fin 8) (v : BitVec 2) : Fin 32 :=
  ⟨16 + 4 * (n.val / 2) + v.toNat, by have := n.isLt; have := v.isLt; omega⟩

/-- The colour register of one sub-pixel inside the window (R184). -/
def pixelColor (b : Bitplane) (sv : Vector (BitVec 2) 8) (pf : BitVec 6) : Fin 32 :=
  match spriteIds.find? fun n => sv[n] != 0 with
  | some n => if pf = 0 ∨ spriteInFront b n then spriteColor n sv[n] else (pf.extractLsb' 0 5).toFin
  | none => (pf.extractLsb' 0 5).toFin

/-- The colour of one sub-pixel: colour 0 outside the display window (R184). -/
def pixelArgb (sv : Vector (BitVec 2) 8) (pf : BitVec 6) (s : State) : Long :=
  if vdiwOpen s && hdiwOpen s then argb s.color[pixelColor s.bpl sv pf] else argb s.color[(0 : Fin 32)]

/-- The pixels of the tick from sub-pixel `sub` on. -/
def pixelsFrom (sv : Vector (BitVec 2) 8) (s : State) : Nat → List (BitVec 6) → List Pixel
  | _, [] => []
  | sub, pf :: rest => ⟨s.beam.vpos, s.beam.hpos, sub, pixelArgb sv pf s⟩ :: pixelsFrom sv s (sub + 1) rest

/-- `pixel_output()` (R184): it sees the colour table after phase 2 of its tick (R143). -/
def pixelOutput (sv : Vector (BitVec 2) 8) (pf : List (BitVec 6)) (s : State) : State :=
  s.withOut { s.out with pixels := pixelsFrom sv s 0 pf }

end Sys2Proof.Machine
end

