-- ==== Sys2Proof/Machine/Refresh.lean ====
section
/-! DEFINITION. Consumer 1, memory refresh (R126), and the rows SLOT_REFRESH0 to SLOT_REFRESH3. -/

namespace Sys2Proof.Machine

/-- Refresh "always wins, no enable bit": the slot is claimed, with address and value 0, and nothing else changes (R126). -/
def refreshTurn (s : State) : Result := .next (grant .refresh 0 0 s)

/-- SLOT_REFRESH0, colclock 0xE2 (R126). -/
def execSlotRefresh0 (s : State) : Result := refreshTurn s
/-- SLOT_REFRESH1, colclock 0x01 (R126). -/
def execSlotRefresh1 (s : State) : Result := refreshTurn s
/-- SLOT_REFRESH2, colclock 0x03 (R126). -/
def execSlotRefresh2 (s : State) : Result := refreshTurn s
/-- SLOT_REFRESH3, colclock 0x05 (R126). -/
def execSlotRefresh3 (s : State) : Result := refreshTurn s

end Sys2Proof.Machine
end

