-- ==== Sys2Proof/Machine/CopperCpu.lean ====
section
/-! DEFINITION. The copper's three instructions (R246 to R251). WAIT and SKIP act over several turns of the copper; what one
execution of them does depends on the copper's state, and the turn (Arbiter.lean) executes them once in each. -/

namespace Sys2Proof.Machine

/-- The copper's state replaced. -/
def State.withCopState (s : State) (st : CopState) : State := s.withCop { s.cop with st := st }

/-- MOVE (R246): the protection test first, then the skip mark, then the register write. -/
def execMove (off data : Word) (s : State) : Result :=
  if regOffset off < copperThreshold s then
    .next ((copperAbort s).withCop { (copperAbort s).cop with skipNext := false })
  else if s.cop.skipNext then .next (s.withCop { s.cop with skipNext := false })
  else regWrite off data s

/-- WAIT (R245, R248, R250). In `wait` the comparison is made; in `need_free_cycle` one turn is used, not claimed; a WAIT just
fetched clears the skip mark and waits for that turn. -/
def execWait (vp hp : Byte) (bfd : Bool) (ve : BitVec 7) (he : Byte) (s : State) : Result :=
  match s.cop.st with
  | .wait => .next (if copperCond vp hp bfd ve he s then s.withCopState .readInst else s)
  | .needFreeCycle => .next (s.withCopState .wait)
  | _ => .next (s.withCop { s.cop with skipNext := false, st := .needFreeCycle })

/-- SKIP (R245, R248, R251). In `skip` the comparison is made once and a success sets the skip mark; else as WAIT. -/
def execSkip (vp hp : Byte) (bfd : Bool) (ve : BitVec 7) (he : Byte) (s : State) : Result :=
  match s.cop.st with
  | .skip =>
      .next (s.withCop { s.cop with skipNext := s.cop.skipNext || copperCond vp hp bfd ve he s, st := .readInst })
  | .needFreeCycle => .next (s.withCopState .skip)
  | _ => .next (s.withCop { s.cop with skipNext := false, st := .needFreeCycle })

end Sys2Proof.Machine
end

