-- ==== Sys2Proof/Machine/Dispatch.lean ====
section
/-! DEFINITION. The meaning of every row of spec/opcode_table.json, one arm each: a copper instruction (R245), the turn of a
fixed slot's owner at its colclock (R98, R126 to R130), or one turn of a running blitter in a mode (R205, R206). -/

namespace Sys2Proof.Machine

/-- The meaning of an instruction. -/
def exec (i : Instr) (s : State) : Host.Outcome State Fault Refusal :=
  match i with
  | .move _ off data => Sys2Proof.Machine.execMove off data s
  | .wait vp hp bfd ve he => Sys2Proof.Machine.execWait vp hp bfd ve he s
  | .skip vp hp bfd ve he => Sys2Proof.Machine.execSkip vp hp bfd ve he s
  | .slotRefresh0 => Sys2Proof.Machine.execSlotRefresh0 s
  | .slotRefresh1 => Sys2Proof.Machine.execSlotRefresh1 s
  | .slotRefresh2 => Sys2Proof.Machine.execSlotRefresh2 s
  | .slotRefresh3 => Sys2Proof.Machine.execSlotRefresh3 s
  | .slotDisk0 => Sys2Proof.Machine.execSlotDisk0 s
  | .slotDisk1 => Sys2Proof.Machine.execSlotDisk1 s
  | .slotDisk2 => Sys2Proof.Machine.execSlotDisk2 s
  | .slotAud0 => Sys2Proof.Machine.execSlotAud0 s
  | .slotAud1 => Sys2Proof.Machine.execSlotAud1 s
  | .slotAud2 => Sys2Proof.Machine.execSlotAud2 s
  | .slotAud3 => Sys2Proof.Machine.execSlotAud3 s
  | .slotSpr0W0 => Sys2Proof.Machine.execSlotSpr0W0 s
  | .slotSpr0W1 => Sys2Proof.Machine.execSlotSpr0W1 s
  | .slotSpr1W0 => Sys2Proof.Machine.execSlotSpr1W0 s
  | .slotSpr1W1 => Sys2Proof.Machine.execSlotSpr1W1 s
  | .slotSpr2W0 => Sys2Proof.Machine.execSlotSpr2W0 s
  | .slotSpr2W1 => Sys2Proof.Machine.execSlotSpr2W1 s
  | .slotSpr3W0 => Sys2Proof.Machine.execSlotSpr3W0 s
  | .slotSpr3W1 => Sys2Proof.Machine.execSlotSpr3W1 s
  | .slotSpr4W0 => Sys2Proof.Machine.execSlotSpr4W0 s
  | .slotSpr4W1 => Sys2Proof.Machine.execSlotSpr4W1 s
  | .slotSpr5W0 => Sys2Proof.Machine.execSlotSpr5W0 s
  | .slotSpr5W1 => Sys2Proof.Machine.execSlotSpr5W1 s
  | .slotSpr6W0 => Sys2Proof.Machine.execSlotSpr6W0 s
  | .slotSpr6W1 => Sys2Proof.Machine.execSlotSpr6W1 s
  | .slotSpr7W0 => Sys2Proof.Machine.execSlotSpr7W0 s
  | .slotSpr7W1 => Sys2Proof.Machine.execSlotSpr7W1 s
  | .bltArea bsh _ fci desc => Sys2Proof.Machine.execBltArea bsh fci desc s
  | .bltFillInclusive bsh _ fci desc => Sys2Proof.Machine.execBltFillInclusive bsh fci desc s
  | .bltFillExclusive bsh _ ife fci desc => Sys2Proof.Machine.execBltFillExclusive bsh ife fci desc s
  | .bltLine bsh _ sign _ sud sul aul sing => Sys2Proof.Machine.execBltLine bsh sign sud sul aul sing s

end Sys2Proof.Machine
end

