-- ==== Sys2Proof/Machine/Arbiter.lean ====
section
/-! DEFINITION. The arbitration tick (R121, R122): housekeeping, the chain of the seven consumers' turns, the free cycle and
the CPU-block counter; and the chain as a pure function of seven requests (R133). -/

namespace Sys2Proof.Machine

/-! ### Fixed slots: consumers 1, 2, 3 and 5 (R98, R126 to R128, R130) -/

/-- The consumer a row of the opcode table belongs to. -/
def ownerOf (i : Instr) : BusOwner :=
  match i with
  | .move _ _ _ | .wait _ _ _ _ _ | .skip _ _ _ _ _ => .copper
  | .slotRefresh0 | .slotRefresh1 | .slotRefresh2 | .slotRefresh3 => .refresh
  | .slotDisk0 | .slotDisk1 | .slotDisk2 => .disk
  | .slotAud0 | .slotAud1 | .slotAud2 | .slotAud3 => .audio
  | .slotSpr0W0 | .slotSpr0W1 | .slotSpr1W0 | .slotSpr1W1 | .slotSpr2W0 | .slotSpr2W1 | .slotSpr3W0 | .slotSpr3W1 => .sprite
  | .slotSpr4W0 | .slotSpr4W1 | .slotSpr5W0 | .slotSpr5W1 | .slotSpr6W0 | .slotSpr6W1 | .slotSpr7W0 | .slotSpr7W1 => .sprite
  | .bltArea _ _ _ _ | .bltFillInclusive _ _ _ _ | .bltFillExclusive _ _ _ _ _ | .bltLine _ _ _ _ _ _ _ _ => .blitter

/-- The fixed slot at the colclock of the tick; colclocks above 0xFF have none (R98). -/
def fixedSlot (s : State) : Option Instr := if s.cc.toNat < 256 then decodeSlot (s.cc.extractLsb' 0 8) else none

/-- The fixed slot at this colclock, if it is one of consumer `o`. -/
def slotOf (o : BusOwner) (s : State) : Option Instr := (fixedSlot s).filter fun i => ownerOf i == o

/-- The turn of a consumer with fixed slots: the row of the slot map at this colclock is executed (R126 to R128, R130). -/
def fixedTurn (o : BusOwner) (s : State) : Result :=
  match slotOf o s with
  | some i => exec i s
  | none => .next s

/-! ### Consumer 6, the copper (R131, R242 to R245) -/

/-- The state after the second word `w2`, read from `a`: it is latched, and the instruction is complete (R244). -/
def copperLatch2 (w : Word) (s : State) : State := s.withCop { s.cop with ir2 := w, haveIr1 := false }

/-- The state after a first word. -/
def copperLatch1 (w : Word) (s : State) : State := s.withCop { s.cop with ir1 := w, haveIr1 := true }

/-- `copper_fetch(cc)`; `copper_execute()` in the same turn after a second word (R244, R245). -/
def copperFetch (s : State) : Result :=
  if copperSlotOk s then
    withMemRead s s.cop.pc fun w =>
      withPtrAdd s.cop.pc 2 fun p =>
        let s1 := grant .copper s.cop.pc w (s.withCop { s.cop with pc := p })
        if s.cop.haveIr1 then exec (decodeCopper s.cop.ir1 w) (copperLatch2 w s1) else .next (copperLatch1 w s1)
  else .next s

/-- The reload of the restart at vertical blank (R243). -/
def copperRestart (s : State) : State :=
  s.withCop { s.cop with pc := s.cop.lc1, haveIr1 := false, skipNext := false, st := .readInst }

/-- The second half of a jump: the program counter is loaded from the chosen location register (R252). -/
def copperLand (s : State) : State :=
  s.withCop { s.cop with pc := if s.cop.jmpTarget then s.cop.lc2 else s.cop.lc1, haveIr1 := false, st := .readInst }

/-- `copper_turn(cc)` (R242). -/
def copperTurn (s : State) : Result :=
  if s.dmaOn dmaCop then
    match s.cop.st with
    | .halted => .next s
    | .vblank => copperFetch (copperRestart s)
    | .readInst => copperFetch s
    | .needFreeCycle =>
        exec (if s.cop.ir2.getLsbD 0 then skipOf s.cop.ir1 s.cop.ir2 else waitOf s.cop.ir1 s.cop.ir2) s
    | .wait => exec (waitOf s.cop.ir1 s.cop.ir2) s
    | .skip => exec (skipOf s.cop.ir1 s.cop.ir2) s
    | .jmpDelay1 => .next (s.withCopState .jmpDelay2)
    | .jmpDelay2 => .next (copperLand s)
  else .next s

/-! ### Consumer 7, the blitter (R132, R206) -/

/-- `blitter_turn` (R206): a running blitter executes the row its control register selects. -/
def blitterTurn (s : State) : Result :=
  if s.dmaOn dmaBlt then
    match s.blt.st with
    | .stopped => .next s
    | .starting => .next s
    | .running => exec (decodeBlitMode s.blt.con1) s
    | .final => finalTurn s
  else .next s

/-! ### The chain (R122, R140, R141) -/

/-- A consumer's turn, reached only if no earlier consumer claimed the slot (R122). -/
def ifUnclaimed (turn : State → Result) (s : State) : Result := if s.claimed then .next s else turn s

/-- `free_cycle()` when nobody claimed the slot (R140). -/
def freeCycle (s : State) : State := if s.claimed then s else s.withOut { s.out with freeCycle := true }

/-- `cpu_block_update(claimed, cpu_wants_bus)` (R141). -/
def cpuBlockUpdate (wants : Bool) (s : State) : State := s.withCpuBlock (cpuBlockAfter s.claimed wants s.cpuBlock)

/-- Consumers 1 to 5 in order. -/
def upperChain (s : State) : Result :=
  andThen (fixedTurn .refresh s) fun s =>
  andThen (ifUnclaimed (fixedTurn .disk) s) fun s =>
  andThen (ifUnclaimed (fixedTurn .audio) s) fun s =>
  andThen (ifUnclaimed bitplaneTurn s) fun s =>
  ifUnclaimed (fixedTurn .sprite) s

/-- The seven turns in order. -/
def chain (s : State) : Result :=
  andThen (upperChain s) fun s =>
  andThen (ifUnclaimed copperTurn s) fun s =>
  ifUnclaimed blitterTurn s

/-- `arbitrate(cc, cpu_wants_bus)` (R122). -/
def arbitrate (wants : Bool) (s : State) : Result :=
  andThen (chain s) fun s => .next (cpuBlockUpdate wants (freeCycle s))

/-- `housekeeping(cc)` (R121). -/
def housekeeping (s : State) : State := blitterStartTick (audioPeriodTicks (ddfTrack s))

/-! ### The chain as a pure function (R133) -/

/-- `prio7(req)`: the first of the seven requests, in chain order, or none. -/
def prio7 (refresh disk audio bitplane sprite copper blitter : Bool) : BusOwner :=
  if refresh then .refresh
  else if disk then .disk
  else if audio then .audio
  else if bitplane then .bitplane
  else if sprite then .sprite
  else if copper then .copper
  else if blitter then .blitter
  else .none

/-- `req[1]` (R126). -/
def reqRefresh (s : State) : Bool := (slotOf .refresh s).isSome

/-- `req[2]` (R127). -/
def reqDisk (s : State) : Bool := (slotOf .disk s).isSome && diskWants s

/-- The channel whose slot a row is. -/
def audioChannelOf (i : Instr) : Fin 4 :=
  if i = .slotAud1 then 1 else if i = .slotAud2 then 2 else if i = .slotAud3 then 3 else 0

/-- `req[3]` (R128). -/
def reqAudio (s : State) : Bool :=
  match slotOf .audio s with
  | some i => audioWants (audioChannelOf i) s
  | none => false

/-- `req[4]` (R129). -/
def reqBitplane (s : State) : Bool := (wantedPlane s).isSome

/-- The sprite whose slot a colclock is: `(cc - 0x15) / 4` (R130). -/
def spriteAt (s : State) : Fin 8 := Fin.ofNat 8 ((s.cc.toNat - 0x15) / 4)

/-- `req[5]` (R130). -/
def reqSprite (s : State) : Bool := (slotOf .sprite s).isSome && spriteWants (spriteAt s) s

/-- `req[6]` (R131). -/
def reqCopper (s : State) : Bool :=
  s.dmaOn dmaCop && (s.cop.st == .readInst || s.cop.st == .vblank) && copperSlotOk s

/-- The pattern of the blitter's live control registers (R102, R206). -/
def bltPattern (s : State) : List BltPhase :=
  if bltLineBit s.blt.con1 then s.cfg.linePattern
  else s.cfg.cycleTable[cycleIndex (useA s.blt.con0) (useB s.blt.con0) (useC s.blt.con0) (useD s.blt.con0)
    (s.blt.con1.getLsbD 4 || s.blt.con1.getLsbD 3)]

/-- The blitter's phase, or its flush in `final`, needs the bus (R132). -/
def bltNeedsBus (s : State) : Bool :=
  match s.blt.st with
  | .stopped => false
  | .starting => false
  | .running =>
      match (bltPattern s)[s.blt.phase.toNat]? with
      | some ph => if bltLineBit s.blt.con1 then lineNeeds ph else areaNeeds ph s.blt
      | none => false
  | .final => s.blt.dpending

/-- `req[7]` (R132, R139). -/
def reqBlitter (s : State) : Bool := s.dmaOn dmaBlt && bltNeedsBus s && busOk s

/-- The consumer the chain grants in state `s` (R133). -/
def granted (s : State) : BusOwner :=
  prio7 (reqRefresh s) (reqDisk s) (reqAudio s) (reqBitplane s) (reqSprite s) (reqCopper s) (reqBlitter s)

end Sys2Proof.Machine
end

