-- ==== Sys2Proof/Machine/Tick.lean ====
section
/-! DEFINITION. One tick: the phases of `step(cpu_wants_bus, current_pc)` in order (R120), and the beam (R150, R151). -/

namespace Sys2Proof.Machine

/-! ### The beam (R150, R151, R171) -/

/-- Lines of the current field (R13, R150). -/
def fieldLines (s : State) : Nat := if s.beam.lof then s.cfg.linesLong else s.cfg.linesShort

/-- `field_start()` (R151): the frame hand-off reports whether the display is non-interlaced, when a scan-doubling pass runs (R152). -/
def fieldStart (s : State) : State :=
  let lace := s.bpl.lace
  let s := s.withBeam { s.beam with lof := if lace then !s.beam.lof else s.beam.lof }
  let s := copperFieldStart s
  let s := s.withSpr (Vector.ofFn fun n => { s.spr[n] with dma := .fetchCtl })
  let s := raiseIrq irqVertb s.cfg.irqDelayVertb s
  s.withOut { s.out with frame := some (!lace) }

/-- `line_start()` (R171). -/
def lineStart (s : State) : State :=
  let s := s.withBpl s.bpl.lineStart
  s.withSpr (Vector.ofFn fun n => s.spr[n].lineStart s.beam.vpos)

/-- The beam at the start of the next line, a field start included (R150). -/
def nextLine (s : State) : State :=
  if s.beam.vpos.toNat + 1 = fieldLines s then fieldStart (s.withBeam { s.beam with hpos := 0, vpos := 0 })
  else s.withBeam { s.beam with hpos := 0, vpos := s.beam.vpos + 1 }

/-- `beam_advance()` (R150). -/
def beamAdvance (s : State) : State :=
  if s.beam.hpos.toNat + 1 = s.cfg.lineTicks then lineStart (nextLine s)
  else s.withBeam { s.beam with hpos := s.beam.hpos + 1 }

/-! ### The phases (R120) -/

/-- The start of a tick: an empty result record. -/
def tickStart (s : State) : State := (s.withOut StepOut.empty).withCpuGrant false

/-- Phase 1 (R182, R173, R174). -/
def phase1 (s : State) : State := bitplaneShiftAndLatch (spriteCompareAndShift s)

/-- Phase 2, on arbitration ticks only (R5, R121, R122). -/
def phase2 (wants : Bool) (s : State) : Result :=
  if s.isArbTick then arbitrate wants (housekeeping s) else .next s

/-- Phase 4 (R374, R286). -/
def phase4 (s : State) : State := dskbytHoldCountdown (s.withIrq s.irq.countDown)

/-- Phase 5 (R376). -/
def updateIpl (s : State) : State := s.withIrq (s.irq.update s.cfg)

/-- The end of a tick: the beam position after the advance (D10), and whether the CPU may use the slot it asked for (R82). -/
def tickEnd (wants : Bool) (s : State) : State :=
  (s.withOut { s.out with beamV := s.beam.vpos, beamH := s.beam.hpos }).withCpuGrant (s.out.freeCycle && wants)

/-- Phases 3 to 7, with the transients of phase 1: the sprites' pixels and the playfield indices (R120). -/
def tickRest (wants : Bool) (sv : Vector (BitVec 2) 8) (pf : List (BitVec 6)) (s : State) : State :=
  tickEnd wants (beamAdvance (audioMixIfDue (ciaAndDriveTick (updateIpl (phase4 (pixelOutput sv pf s))))))

/-- `step(cpu_wants_bus, current_pc)` (R120); `current_pc` is read by no rule (R153 (e)). -/
def tick (wants : Bool) (s : State) : Result :=
  let s := tickStart s
  andThen (phase2 wants (phase1 s)) fun s2 => .next (tickRest wants (spritePixels s) (playfield s) s2)

end Sys2Proof.Machine
end

