-- ==== Sys2Proof/Machine/HostCalls.lean ====
section
/-! DEFINITION. The calls the host makes between two ticks (R61, R66 to R72, R82, R297, R352, R377, R400). -/

namespace Sys2Proof.Machine

/-- A call is answered: the record of the step holds the value read. -/
def State.replied (s : State) (v : Long) : State := s.withOut { s.out with reply := some v }

/-- A chip-bus access: only directly after a free cycle that the CPU asked for, and one access for it (R82, U13). -/
def withBus (s : State) (k : State → Result) : Result :=
  if s.cpuGrant then k (s.withCpuGrant false) else .refused .busContract

/-! ### The register window (R70) -/

/-- The byte of a word that a byte address selects: bits 15..8 at an even address (R62, R70). -/
def byteAt (off : Word) (w : Word) : Byte := if off.getLsbD 0 then w.extractLsb' 0 8 else w.extractLsb' 8 8

/-- A CPU read of the register window (R70): a long read is two word reads, the high word first. -/
def customRead (width : Width) (off : Word) (s : State) : Result :=
  match width with
  | .byte => .next (s.replied ((byteAt off (regRead off s)).setWidth 32))
  | .word => if off.getLsbD 0 then .refused .customOddAccess else .next (s.replied ((regRead off s).setWidth 32))
  | .long =>
      if off.getLsbD 0 then .refused .customOddAccess
      else .next (s.replied (regRead off s ++ regRead (off + 2) s))

/-- A CPU write of the register window (R70). -/
def customWrite (width : Width) (off : Word) (v : Long) (s : State) : Result :=
  match width with
  | .byte => .refused .customByteWrite
  | .word => if off.getLsbD 0 then .refused .customOddAccess else regWrite off (v.extractLsb' 0 16) s
  | .long =>
      if off.getLsbD 0 then .refused .customOddAccess
      else andThen (regWrite off (v.extractLsb' 16 16) s) fun s => regWrite (off + 2) (v.extractLsb' 0 16) s

/-! ### Chip memory (R60, R62, R64) -/

/-- The bytes of an access. -/
def Width.bytes : Width → Nat
  | .byte => 1
  | .word => 2
  | .long => 4

/-- Go on with the byte address of an access to chip memory, or say why it is none (R64, R71). -/
def withChipAddr (width : Width) (a : Long) (s : State) (k : Nat → Result) : Result :=
  if width ≠ .byte ∧ a.getLsbD 0 then .refused .cpuMisaligned
  else if s.cfg.chipMemBytes < a.toNat + width.bytes then .refused .outsideWindows
  else k a.toNat

/-- A CPU read of chip memory, big-endian (R62). -/
def chipRead (width : Width) (a : Long) (s : State) : Result :=
  withChipAddr width a s fun n =>
    .next (s.replied (match width with
      | .byte => (Mem.read s.mem n).setWidth 32
      | .word => (Mem.readWord s.mem n).setWidth 32
      | .long => Mem.readWord s.mem n ++ Mem.readWord s.mem (n + 2)))

/-- A CPU write of chip memory, big-endian (R62). -/
def chipWrite (width : Width) (a : Long) (v : Long) (s : State) : Result :=
  withChipAddr width a s fun n =>
    .next (s.withMem (match width with
      | .byte => Mem.write s.mem n (v.extractLsb' 0 8)
      | .word => Mem.writeWord s.mem n (v.extractLsb' 0 16)
      | .long => Mem.writeWord (Mem.writeWord s.mem n (v.extractLsb' 16 16)) (n + 2) (v.extractLsb' 0 16)))

/-! ### The CIAs (R352) -/

/-- `CiaRead(i, r)` (R352). -/
def ciaReadCall (i : CiaId) (r : BitVec 4) (s : State) : State :=
  (ciaReadEffect i r s).replied ((ciaValue s i r).setWidth 32)

/-- The register number at an address: `(address >> 8) & 0xF` (R352). -/
def ciaRegister (a : Long) : BitVec 4 := a.extractLsb' 8 4

/-- An address lies in the window of a CIA, on the byte lane of its base (R352). -/
def inCiaWindow (base size a : Nat) : Bool := decide (base ≤ a) && decide (a < base + size) && (a - base) % 2 == 0

/-- The CIA a byte address reaches, if any (R71, R352). -/
def ciaAt (k : Config) (a : Nat) : Option CiaId :=
  if inCiaWindow k.ciaaBase k.ciaaSize a then some .a
  else if inCiaWindow k.ciabBase k.ciabSize a then some .b
  else none

/-- An address lies in the range of a CIA's window on either byte lane, from the even address of its first word on (log 8). -/
def inCiaRange (base size a : Nat) : Bool := decide (base - base % 2 ≤ a) && decide (a < base + size)

/-- The handlers of the CIAs answer at an address: as a register, or without one on the other byte lane (R61, R352, log 8). -/
def ciaAnswers (k : Config) (a : Nat) : Bool :=
  inCiaRange k.ciaaBase k.ciaaSize a || inCiaRange k.ciabBase k.ciabSize a

/-- A byte read in the CIA range: the filler where no register is (R61, R69, log 8). -/
def ciaByteValue (a : Long) (s : State) : Byte :=
  match ciaAt s.cfg a.toNat with
  | some i => ciaValue s i (ciaRegister a)
  | none => s.cfg.regFiller.extractLsb' 0 8

/-- What a byte read in the CIA range changes (R352, R357). -/
def ciaByteReadEffect (a : Long) (s : State) : State :=
  match ciaAt s.cfg a.toNat with
  | some i => ciaReadEffect i (ciaRegister a) s
  | none => s

/-- A byte write in the CIA range: dropped where no register is (R61, R69, log 8). -/
def ciaByteWrite (a : Long) (v : Byte) (s : State) : State :=
  match ciaAt s.cfg a.toNat with
  | some i => ciaWrite i (ciaRegister a) v s
  | none => s

/-- A CPU read of `n` bytes in the CIA range, after the bytes `acc`: the registers are 8 bits wide, so it is answered byte by
byte in address order, high byte first (R61, R62, R352, log 8). -/
def ciaBytesRead (acc : Long) (a : Long) (s : State) : Nat → State
  | 0 => s.replied acc
  | n + 1 => ciaBytesRead (acc.extractLsb' 0 24 ++ ciaByteValue a s) (a + 1) (ciaByteReadEffect a s) n

/-- A CPU write of the low `n` bytes of `v` in the CIA range, byte by byte in the same order (R61, R62, R352, log 8). -/
def ciaBytesWrite (v : Long) (a : Long) (s : State) : Nat → State
  | 0 => s
  | n + 1 => ciaBytesWrite v (a + 1) (ciaByteWrite a (v.extractLsb' (8 * n) 8) s) n

/-! ### The ROM (R61, R72) -/

/-- A byte of the ROM at an offset from the start of its window or of the overlay; beyond its size it repeats (log 8). -/
def romByte (k : Config) (off : Nat) : Byte := Mem.read k.rom (off % k.romSize)

/-- A word of the ROM (R62). -/
def romWord (k : Config) (off : Nat) : Word := romByte k off ++ romByte k (off + 1)

/-- A CPU access to the ROM that is aligned (R64); it is no access to the chip bus (log 8). -/
def withRomAligned (width : Width) (a : Long) (r : Result) : Result :=
  if width ≠ .byte ∧ a.getLsbD 0 then .refused .cpuMisaligned else r

/-- The value a CPU read of the ROM gives, big-endian (R62, R72). -/
def romValue (width : Width) (k : Config) (off : Nat) : Long :=
  match width with
  | .byte => (romByte k off).setWidth 32
  | .word => (romWord k off).setWidth 32
  | .long => romWord k off ++ romWord k (off + 2)

/-! ### The CPU's address space (R61, R71, R72) -/

/-- What a CPU address reaches. -/
inductive Window where
  | custom
  | cia
  | rom (off : Nat)
  | chip
  | outside
deriving DecidableEq, Repr

/-- Address-range dispatch (R61, R71); while `ovl = 1` the ROM also answers at the bottom of the address space in place of RAM
(R72). An access of 16 or 32 bits goes where its first byte's address goes, also where it runs past the end of that window: in
the custom window its second word is then the next offset mod 512; the order in which the windows are tested is the model's
choice too (log 8). -/
def windowOf (s : State) (a : Long) : Window :=
  if s.cfg.customBase ≤ a.toNat ∧ a.toNat < s.cfg.customBase + s.cfg.customSize then .custom
  else if ciaAnswers s.cfg a.toNat then .cia
  else if s.cfg.romBase ≤ a.toNat ∧ a.toNat < s.cfg.romBase + s.cfg.romSize then .rom (a.toNat - s.cfg.romBase)
  else if ovl s ∧ a.toNat < s.cfg.overlaySize then .rom a.toNat
  else if a.toNat < s.cfg.chipMemBytes then .chip
  else .outside

/-- A CPU read by address. -/
def cpuRead (width : Width) (a : Long) (s : State) : Result :=
  match windowOf s a with
  | .custom => withBus s (customRead width (a.extractLsb' 0 16))
  | .cia => .next (ciaBytesRead 0 a s width.bytes)
  | .rom off => withRomAligned width a (.next (s.replied (romValue width s.cfg off)))
  | .chip => withBus s (chipRead width a)
  | .outside => .refused .outsideWindows

/-- A CPU write by address; the ROM ignores it (R61, R72, log 8). -/
def cpuWrite (width : Width) (a : Long) (v : Long) (s : State) : Result :=
  match windowOf s a with
  | .custom => withBus s (customWrite width (a.extractLsb' 0 16) v)
  | .cia => .next (ciaBytesWrite v a s width.bytes)
  | .rom _ => withRomAligned width a (.next s)
  | .chip => withBus s (chipWrite width a v)
  | .outside => .refused .outsideWindows

/-! ### Media (R297) -/

/-- A medium put into a drive that exists, or taken out of it (R28, R297). -/
def mediaCall (d : Fin 4) (m : Option Medium) (s : State) : Result :=
  if d.val < s.cfg.numDrives then .next (setMedium d m s) else .refused .noSuchDrive

/-- One call of the host; `s` has it taken off the queue. -/
def hostCall (op : HostOp) (s : State) : Result :=
  match op with
  | .tick wants _ => tick wants s
  | .reset => .next s.resetAgain
  | .customRead width off => withBus (s.withOut StepOut.empty) (customRead width off)
  | .customWrite width off v => withBus (s.withOut StepOut.empty) (customWrite width off v)
  | .ciaRead i r => .next (ciaReadCall i r (s.withOut StepOut.empty))
  | .ciaWrite i r v => .next (ciaWrite i r v (s.withOut StepOut.empty))
  | .chipRead width a => withBus (s.withOut StepOut.empty) (chipRead width a)
  | .chipWrite width a v => withBus (s.withOut StepOut.empty) (chipWrite width a v)
  | .cpuRead width a => cpuRead width a (s.withOut StepOut.empty)
  | .cpuWrite width a v => cpuWrite width a v (s.withOut StepOut.empty)
  | .currentIpl => .next ((s.withOut StepOut.empty).replied (s.irq.iplCurrent.setWidth 32))
  | .insertMedium d m => mediaCall d (some m) (s.withOut StepOut.empty)
  | .ejectMedium d => mediaCall d none (s.withOut StepOut.empty)

end Sys2Proof.Machine
end

