-- ==== Sys2Proof/Machine/Step.lean ====
section
/-! DEFINITION. One step of the machine, and the state in which the next step runs a given row of the opcode table. -/

namespace Sys2Proof.Machine

/-- One step: the host's next call, or, when the queue is empty, one tick in which the CPU does not ask for the bus (R120, log 4). -/
def step (s : State) : Host.Outcome State Fault Refusal :=
  match s.host with
  | [] => tick false s
  | op :: rest => hostCall op (s.withHost rest)

/-! ### The row run next (log 5) -/

/-- `s` with the next call a tick. -/
def State.tickNext (s : State) : State := s.withHost (.tick false 0 :: s.host)

/-- A copper instruction run next: its two words stand in chip memory at `cop_pc`, the first is latched, and the copper has the
slot of colclock 0. -/
def copperRunsNext (w1 w2 : Word) (s : State) : State :=
  let a := dmaAddr s s.cop.pc
  let s := s.withMem (Mem.writeWord (Mem.writeWord s.mem a w1) (a + 2) w2)
  let s := s.withCop { s.cop with pc := s.cop.pc + 2, ir1 := w1, haveIr1 := true, st := .readInst }
  (s.withDmacon 0x0280).withBeam { s.beam with hpos := 0 }

/-- A fixed slot run next: the beam stands at its colclock, and its consumer wants the bus. -/
def slotRunsNext (cc : Nat) (s : State) : State :=
  let s := s.withBeam { s.beam with hpos := BitVec.ofNat 16 (2 * cc) }
  let s := s.withDmacon 0x023F
  let s := s.withDsk { s.dsk with active := true, remaining := 1 }
  let s := s.withAud (Vector.ofFn fun n => { s.aud[n] with dmareq := true })
  s.withSpr (Vector.ofFn fun n => { s.spr[n] with dma := .fetchCtl })

/-- A blitter mode run next: a blit of one word with `bltcon1` the mode's word is running, and the blitter has the slot of
colclock 0. -/
def blitRunsNext (w : Word) (s : State) : State :=
  let b := Blitter.startBlit s.cfg 0x0041 { s.blt with con1 := w }
  let s := s.withBlt { b with st := .running }
  (s.withDmacon 0x0240).withBeam { s.beam with hpos := 0 }

/-- `s` in which the next step runs the row of the opcode table whose word is `w` (`nbits` bits, numbered as the table numbers
them). -/
def State.withFetchWord (s : State) (nbits w : Nat) : State :=
  if nbits = 32 then (copperRunsNext (BitVec.ofNat 16 (w / 65536)) (BitVec.ofNat 16 w) s).tickNext
  else if nbits = 16 then (blitRunsNext (BitVec.ofNat 16 w) s).tickNext
  else (slotRunsNext w s).tickNext

end Sys2Proof.Machine
end

