-- ==== Sys2Proof/Safety.lean ====
section
/-! DEFINITION. What a good state is, in the terms the statements use: the canonical form of every memory, and the bounds and
consistency conditions that the rules keep from reset on. -/

namespace Sys2Proof.Machine

/-! ### Memory -/

/-- Every listed address is below `n`. -/
def Mem.below (n : Nat) (m : Memory) : Bool := m.all fun c => decide (c.1 < n)

/-- Bytes of a flat sector image (R111). -/
def imageBytes : Nat := cylinders * heads * sectorsPerTrack * sectorBytes

/-- A medium's sector image is in canonical form and lists no offset a flat image does not have (R111). -/
def Medium.ok (m : Medium) : Bool := Mem.wf m.image && Mem.below imageBytes m.image

/-- No medium, or one whose image is in order. -/
def mediumOk : Option Medium → Bool
  | none => true
  | some m => m.ok

/-- A host call that brings a medium brings one whose image is in order. -/
def HostOp.ok : HostOp → Bool
  | .insertMedium _ m => m.ok
  | _ => true

/-- Chip memory, the track buffer, the ROM and every sector image, inserted or waiting in the queue, are in canonical form and
list no address outside their bounds. -/
structure MemoryInv (s : State) : Prop where
  memWf : Mem.wf s.mem
  memBelow : Mem.below s.cfg.chipMemBytes s.mem
  bufWf : Mem.wf s.dsk.buf
  bufBelow : Mem.below s.cfg.mfmTrackBytes s.dsk.buf
  romWf : Mem.wf s.cfg.rom
  romBelow : Mem.below s.cfg.romSize s.cfg.rom
  mediaOk : ∀ d : Fin 4, mediumOk s.drives[d].media
  hostOk : s.host.all HostOp.ok

/-! ### Beam (R13, R150) -/

/-- The beam lies inside the line and the field. -/
structure BeamInv (s : State) : Prop where
  hposLt : s.beam.hpos.toNat < s.cfg.lineTicks
  vposLt : s.beam.vpos.toNat < fieldLines s

/-! ### Copper (R240, R242, R248) -/

/-- The latch agrees with the state: a WAIT or SKIP is latched whole in `need_free_cycle`, a WAIT in `wait`, a SKIP in `skip`. -/
def copperLatchOk (c : Copper) : Bool :=
  match c.st with
  | .needFreeCycle => c.ir1.getLsbD 0 && !c.haveIr1
  | .wait => c.ir1.getLsbD 0 && !c.ir2.getLsbD 0 && !c.haveIr1
  | .skip => c.ir1.getLsbD 0 && c.ir2.getLsbD 0 && !c.haveIr1
  | .readInst => true
  | .vblank => !c.haveIr1
  | .jmpDelay1 => !c.haveIr1
  | .jmpDelay2 => !c.haveIr1
  | .halted => !c.haveIr1

/-- The copper's latch and skip mark are what its state allows: the mark stands only while instructions are read. -/
structure CopperInv (s : State) : Prop where
  latchOk : copperLatchOk s.cop
  skipOnlyReading : s.cop.skipNext → s.cop.st = .readInst

/-! ### Blitter (R200, R203, R206, R214, R219) -/

/-- The sequencer of a blit in progress: its phase lies inside the pattern its control registers select, and there is a word and
a row (a dot) still to do. -/
structure BlitInProgress (s : State) : Prop where
  phaseLt : s.blt.phase.toNat < (bltPattern s).length
  wPos : 1 ≤ s.blt.w.toNat
  wLe : s.blt.w.toNat ≤ s.blt.width.toNat
  widthLe : s.blt.width.toNat ≤ 64
  hPos : 1 ≤ s.blt.h.toNat
  hLe : s.blt.h.toNat ≤ 1024

/-- The busy flag says that a blit is starting or running, and such a blit's sequencer is in order. -/
structure BlitterInv (s : State) : Prop where
  busyIff : s.blt.busy = (s.blt.st == .starting || s.blt.st == .running)
  inProgress : s.blt.busy → BlitInProgress s

/-! ### Interrupts, DMA control, audio, disk, drives, CIAs -/

/-- The levels are 0 .. 6 (R17, R375) and `dmacon` keeps its eleven bits (R15). -/
structure ControlInv (s : State) : Prop where
  current : s.irq.iplCurrent.toNat ≤ 6
  target : s.irq.iplTarget.toNat ≤ 6
  dmaconBits : s.dmacon &&& 0xF800 = 0

/-- A volume is at most 64 (R26, R328) and an inactive channel asks for nothing (R327). -/
structure AudioInv (s : State) : Prop where
  volLe : ∀ n : Fin 4, s.aud[n].vol.toNat ≤ 64
  quiet : ∀ n : Fin 4, s.aud[n].st = .inactive → s.aud[n].dmareq = false

/-- The head stands at an even offset of the buffer, and an active transfer has words left (R27, R281, R285, R288). -/
structure DiskInv (s : State) : Prop where
  posLt : s.dsk.bufPos.toNat < s.cfg.mfmTrackBytes
  posEven : s.dsk.bufPos.toNat % 2 = 0
  left : s.dsk.active → s.dsk.remaining ≠ 0

/-- Every head is on a cylinder the drive has, and the countdown to the next index pulse is 1 .. `REVOLUTION_TICKS` (R28, R293,
R295). -/
structure DriveInv (s : State) : Prop where
  cylLe : ∀ d : Fin 4, s.drives[d].cyl.toNat ≤ s.cfg.maxCylinder.toNat
  indexPos : ∀ d : Fin 4, 1 ≤ s.drives[d].index.toNat
  indexLe : ∀ d : Fin 4, s.drives[d].index.toNat ≤ s.cfg.revolutionTicks.toNat

/-- The divider counts 0 .. 9 (R351) and no control register keeps its load strobe (R352). -/
structure CiaInv (s : State) : Prop where
  divLt : s.ciaDiv.toNat < 10
  craA : s.ciaA.cra.getLsbD 4 = false
  crbA : s.ciaA.crb.getLsbD 4 = false
  craB : s.ciaB.cra.getLsbD 4 = false
  crbB : s.ciaB.crb.getLsbD 4 = false

/-- A good state: parameters that meet their constraints (R4) and every condition above. -/
structure State.Inv (s : State) : Prop where
  cfg : s.cfg.wf
  memory : MemoryInv s
  beam : BeamInv s
  copper : CopperInv s
  blitter : BlitterInv s
  control : ControlInv s
  audio : AudioInv s
  disk : DiskInv s
  drive : DriveInv s
  cia : CiaInv s

/-- A safe outcome: no internal fault. A refusal is outside the model, a next state goes on. -/
def Safe (r : Result) : Prop := ∀ e, r ≠ .fault e

/-! ### The words of the statements -/

/-- The sum of a pointer and a step stays in the container (R80). -/
def ptrFits (p : Long) (k : Int) : Prop := 0 ≤ (p.toNat : Int) + k ∧ (p.toNat : Int) + k < 4294967296

/-- Every byte of chip memory reads as before. -/
def SameMem (s t : State) : Prop := ∀ b : Nat, Mem.read t.mem b = Mem.read s.mem b

/-- Every byte of chip memory outside the word at `a` reads as before. -/
def SameMemOutsideWord (a : Nat) (s t : State) : Prop :=
  ∀ b : Nat, b ≠ a → b ≠ a + 1 → Mem.read t.mem b = Mem.read s.mem b

/-- The four refresh rows (R98). -/
def refreshRow (k : Fin 4) : Instr := #v[.slotRefresh0, .slotRefresh1, .slotRefresh2, .slotRefresh3][k]

/-- The three disk rows (R98). -/
def diskRow (k : Fin 3) : Instr := #v[.slotDisk0, .slotDisk1, .slotDisk2][k]

/-- The row of audio channel `n` (R98). -/
def audioRow (n : Fin 4) : Instr := #v[.slotAud0, .slotAud1, .slotAud2, .slotAud3][n]

/-- The rows of the first word of each sprite (R98). -/
def spriteRow0 (n : Fin 8) : Instr :=
  #v[.slotSpr0W0, .slotSpr1W0, .slotSpr2W0, .slotSpr3W0, .slotSpr4W0, .slotSpr5W0, .slotSpr6W0, .slotSpr7W0][n]

/-- The rows of the second word of each sprite (R98). -/
def spriteRow1 (n : Fin 8) : Instr :=
  #v[.slotSpr0W1, .slotSpr1W1, .slotSpr2W1, .slotSpr3W1, .slotSpr4W1, .slotSpr5W1, .slotSpr6W1, .slotSpr7W1][n]

/-- The row of word `k` of sprite `n` (R98). -/
def spriteRow (n : Fin 8) (k : Fin 2) : Instr := if k = 0 then spriteRow0 n else spriteRow1 n

/-- The mode of an area or fill row, as its fields name it (R23, R205). -/
def areaModeOf (i : Instr) : Option BltMode :=
  match i with
  | .bltArea bsh _ fci desc => some ⟨bsh, false, false, fci, desc⟩
  | .bltFillInclusive bsh _ fci desc => some ⟨bsh, false, true, fci, desc⟩
  | .bltFillExclusive bsh _ ife fci desc => some ⟨bsh, true, ife, fci, desc⟩
  | _ => none

/-- The mode of a line row, as its fields name it (R23, R205). -/
def lineModeOf (i : Instr) : Option LineMode :=
  match i with
  | .bltLine bsh _ sign _ sud sul aul sing => some ⟨bsh, sign, sud, sul, aul, sing⟩
  | _ => none

/-- The next step is a tick: whether the CPU asks for the bus in it, and the state it starts from. -/
def tickCall (s : State) : Option (Bool × State) :=
  match s.host with
  | [] => some (false, s)
  | .tick wants _ :: rest => some (wants, s.withHost rest)
  | _ => none

/-- The state at the start of the chain of a tick that starts from `s` (R120, R121). -/
def slotEntry (s : State) : State := housekeeping (phase1 (tickStart s))

/-- The end of an arbitration tick that started from `s`, when the chain has ended in `u` (R120, R140, R141). -/
def finishTick (wants : Bool) (s u : State) : State :=
  tickRest wants (spritePixels (tickStart s)) (playfield (tickStart s)) (cpuBlockUpdate wants (freeCycle u))

end Sys2Proof.Machine
end

