-- ==== Sys2Proof/Certificates/Slice0/Obligations.lean ====
section
/-! DEFINITION. The statements for the provers, each with the rule of spec/ it states or rests on. -/

open Sys2Proof Sys2Proof.Machine

/-- Decoding the encoding of a well-formed instruction gives the instruction back. Rests on spec/30_encoding.md sections
1 and 3, spec/10_state.md section 6. -/
def Obligations.DecodeOfEncodedInstruction : Prop :=
  ∀ i : Instr, i.wf → decode (encode i) = .ok i

/-- Bytes that decode are the encoding of what they decode to, and that is well-formed. Rests on spec/30_encoding.md
sections 1 and 3, spec/10_state.md section 6. -/
def Obligations.EncodeOfDecodedBytes : Prop :=
  ∀ (bytes : List Byte) (i : Instr), decode bytes = .ok i → i.wf ∧ encode i = bytes

/-- Every pair of copper words is a MOVE, a WAIT or a SKIP, chosen by the low bits, with the fields of the formats.
States R91, R92, R93, R94. -/
def Obligations.CopperWordsDecodeByTheirLowBits : Prop :=
  ∀ b3 b2 b1 b0 : Byte,
    let w1 : Word := b3 ++ b2
    let w2 : Word := b1 ++ b0
    decode [b3, b2, b1, b0] = .ok
      (if w1.getLsbD 0 = false then .move (w1.extractLsb' 9 7) (w1 &&& 0x01FE) w2
       else if w2.getLsbD 0 = false then .wait b3 (b2 &&& 0xFE) (b1.getLsbD 7) (b1.extractLsb' 0 7) (b0 &&& 0xFE)
       else .skip b3 (b2 &&& 0xFE) (b1.getLsbD 7) (b1.extractLsb' 0 7) (b0 &&& 0xFE))
    ∧ copperTarget b3 (b2 &&& 0xFE) = w1 &&& 0xFFFE
    ∧ copperMask (b1.extractLsb' 0 7) (b0 &&& 0xFE) = 0x8000 ||| (w2 &&& 0x7FFE)

/-- The fixed slot map: which consumer owns which colclock, and that all other colclocks have no owner. States R98. -/
def Obligations.FixedSlotMapHasOneOwnerPerColclock : Prop :=
  (∀ s : State, fixedSlot s =
      if s.beam.hpos.toNat / 2 < 256 then decodeSlot (BitVec.ofNat 8 (s.beam.hpos.toNat / 2)) else none)
    ∧ (∀ k : Fin 4, decodeSlot (#v[0xE2, 0x01, 0x03, 0x05][k]) = some (refreshRow k) ∧ ownerOf (refreshRow k) = .refresh)
    ∧ (∀ k : Fin 3, decodeSlot (#v[0x07, 0x09, 0x0B][k]) = some (diskRow k) ∧ ownerOf (diskRow k) = .disk)
    ∧ (∀ n : Fin 4, decodeSlot (BitVec.ofNat 8 (0x0D + 2 * n.val)) = some (audioRow n) ∧ ownerOf (audioRow n) = .audio)
    ∧ (∀ (n : Fin 8) (k : Fin 2),
        decodeSlot (BitVec.ofNat 8 (0x15 + 4 * n.val + 2 * k.val)) = some (spriteRow n k) ∧ ownerOf (spriteRow n k) = .sprite)
    ∧ (∀ cc : Byte, cc ≠ 0xE2 → (cc.toNat % 2 = 0 ∨ 0x33 < cc.toNat) → decodeSlot cc = none)

/-- Words written out bit by bit from the spec's formats decode to the instructions they stand for. Rests on
spec/30_encoding.md section 1, spec/30_encoding.md section 3, spec/10_state.md section 6. -/
def Obligations.WordsWrittenOutFromTheSpecDecode : Prop :=
  decode [0x01, 0x80, 0x0F, 0x00] = .ok (.move 0 0x0180 0x0F00)
    ∧ decode [0x50, 0x21, 0xFF, 0xFE] = .ok (.wait 0x50 0x20 true 0x7F 0xFE)
    ∧ decode [0x50, 0x21, 0xFF, 0xFF] = .ok (.skip 0x50 0x20 true 0x7F 0xFE)
    ∧ decode [0x2C, 0x07, 0x0F, 0x80] = .ok (.wait 0x2C 0x06 false 0x0F 0x80)
    ∧ decode [0xE2] = .ok .slotRefresh0 ∧ decode [0x09] = .ok .slotDisk1
    ∧ decode [0x0F] = .ok .slotAud1 ∧ decode [0x1B] = .ok .slotSpr1W1
    ∧ decode [0x10, 0x02] = .ok (.bltArea 1 0 false true)
    ∧ decode [0x00, 0x0E] = .ok (.bltFillInclusive 0 0 true true)
    ∧ decode [0x00, 0x12] = .ok (.bltFillExclusive 0 0 false false true)
    ∧ decode [0x00, 0x18] = .ok (.bltFillExclusive 0 0 true false false)
    ∧ decode [0x30, 0x4D] = .ok (.bltLine 3 0 true false false true true false)
    ∧ decode [0x35] = .error (.noFixedSlot 0x35) ∧ decode [1, 2, 3] = .error (.badLength 3)

/-- A tick whose slot goes to the copper's second fetch executes the instruction the two words decode to. Rests on
spec/43_copper.md section 2, spec/40_arbiter.md sections 1 and 2. -/
def Obligations.StepRunsTheFetchedCopperInstruction : Prop :=
  ∀ (s s0 : State) (wants : Bool) (i : Instr), tickCall s = some (wants, s0) → s0.isArbTick →
    granted (slotEntry s0) = .copper → (slotEntry s0).cop.st = .readInst → (slotEntry s0).cop.haveIr1 →
    dmaInRange (slotEntry s0) (slotEntry s0).cop.pc → ptrFits (slotEntry s0).cop.pc 2 →
    decode (bytesOfWord (slotEntry s0).cop.ir1
      ++ Mem.readBytes (slotEntry s0).mem (dmaAddr (slotEntry s0) (slotEntry s0).cop.pc) 2) = .ok i →
    let e := slotEntry s0
    let w := Mem.readWord e.mem (dmaAddr e e.cop.pc)
    let d := grant .copper e.cop.pc w
      { e with cop := { e.cop with pc := e.cop.pc + 2, ir2 := w, haveIr1 := false } }
    step s = andThen (exec i d) fun u => .next (finishTick wants s0 u)

/-- A tick at a colclock whose fixed-slot consumer is granted the bus executes that colclock's row. Rests on
spec/40_arbiter.md sections 1, 2 and 4, spec/30_encoding.md section 3. -/
def Obligations.StepRunsTheSlotRowOfTheColclock : Prop :=
  ∀ (s s0 : State) (wants : Bool) (i : Instr), tickCall s = some (wants, s0) → s0.isArbTick →
    s0.beam.hpos.toNat / 2 < 256 → decode [BitVec.ofNat 8 (s0.beam.hpos.toNat / 2)] = .ok i →
    granted (slotEntry s0) = ownerOf i →
    step s = andThen (exec i (slotEntry s0)) fun u => .next (finishTick wants s0 u)

/-- A tick whose slot goes to a running blitter executes the row its control word decodes to. Rests on
spec/42_blitter.md sections 1 and 2, spec/40_arbiter.md sections 2 and 4. -/
def Obligations.StepRunsTheBlitterModeOfItsControlWord : Prop :=
  ∀ (s s0 : State) (wants : Bool) (i : Instr), tickCall s = some (wants, s0) → s0.isArbTick →
    granted (slotEntry s0) = .blitter → (slotEntry s0).blt.st = .running →
    decode (bytesOfWord (slotEntry s0).blt.con1) = .ok i →
    ∃ c : Copper, copperTurn (slotEntry s0) = .next { slotEntry s0 with cop := c } ∧
      step s = andThen (exec i { slotEntry s0 with cop := c }) fun u => .next (finishTick wants s0 u)

/-- A step is the host's next call, or a tick when none is queued, and the CPU's program counter changes nothing. Rests
on spec/40_arbiter.md section 1, spec/20_memory.md section 6. -/
def Obligations.StepMakesTheNextHostCall : Prop :=
  (∀ s : State, s.host = [] → step s = tick false s)
    ∧ (∀ (s : State) (op : HostOp) (rest : List HostOp), s.host = op :: rest → step s = hostCall op { s with host := rest })
    ∧ (∀ (s : State) (wants : Bool) (pc pc' : Long) (rest : List HostOp),
        step { s with host := .tick wants pc :: rest } = step { s with host := .tick wants pc' :: rest })

/-- A MOVE below the threshold halts the copper; else a standing skip mark is used up, or the register write is made.
States R246, R247, R370. -/
def Obligations.MoveIsProtectedThenSkippedThenWritten : Prop :=
  (∀ (unused : BitVec 7) (off data : Word) (s : State), moveOffsetOk off →
      off.toNat < (if s.cop.con.getLsbD 1 then s.cfg.copProtectDanger else s.cfg.copProtectSafe).toNat →
      exec (.move unused off data) s = .next { s with cop := { s.cop with st := .halted, skipNext := false } })
    ∧ (∀ (unused : BitVec 7) (off data : Word) (s : State), moveOffsetOk off →
      (if s.cop.con.getLsbD 1 then s.cfg.copProtectDanger else s.cfg.copProtectSafe).toNat ≤ off.toNat →
      (s.cop.skipNext → exec (.move unused off data) s = .next { s with cop := { s.cop with skipNext := false } })
      ∧ (s.cop.skipNext = false → exec (.move unused off data) s = regWrite off data s))
    ∧ (∀ s : State, (copperAbort s).cop.st = .halted ∧ (fieldStart (copperAbort s)).cop.st = .vblank)
    ∧ (∀ (s : State) (v : Word), ∃ t, regWriteReg .copjmp1 v (copperAbort s) = .next t ∧ t.cop.st = .jmpDelay1)
    ∧ Config.default.copProtectDanger = 0x40 ∧ Config.default.copProtectSafe = 0x80
    ∧ regAt Config.default 0x02E = some .copcon
    ∧ (∀ (unused : BitVec 7) (data : Word) (s : State), s.cfg = Config.default →
        exec (.move unused 0x02E data) s = .next { s with cop := { s.cop with st := .halted, skipNext := false } })

/-- Every MOVE completes while the blitter is stopped; memory, beam, CIAs and the program counter are untouched. Rests
on spec/43_copper.md section 3, spec/20_memory.md section 3. -/
def Obligations.MoveCompletesWhileTheBlitterIsStopped : Prop :=
  ∀ (unused : BitVec 7) (off data : Word) (s : State), s.blt.st = .stopped → s.blt.busy = false →
    ∃ t, exec (.move unused off data) s = .next t ∧ SameMem s t
      ∧ t = { s with
          dmacon := t.dmacon, irq := t.irq, bpl := t.bpl, color := t.color, spr := t.spr, blt := t.blt, cop := t.cop
          aud := t.aud, adkcon := t.adkcon, dsk := t.dsk, drives := t.drives, out := t.out }
      ∧ t.cop.pc = s.cop.pc ∧ t.cop.ir1 = s.cop.ir1 ∧ t.cop.ir2 = s.cop.ir2

/-- A fetched WAIT or SKIP clears the skip mark and goes to need_free_cycle; the next turn goes to wait or skip. States
R248. -/
def Obligations.WaitAndSkipUseOneUnclaimedTurn : Prop :=
  ∀ (vp hp : Byte) (bfd : Bool) (ve : BitVec 7) (he : Byte) (s : State),
    (s.cop.st = .readInst →
      exec (.wait vp hp bfd ve he) s = .next { s with cop := { s.cop with skipNext := false, st := .needFreeCycle } }
      ∧ exec (.skip vp hp bfd ve he) s = .next { s with cop := { s.cop with skipNext := false, st := .needFreeCycle } })
    ∧ (s.cop.st = .needFreeCycle →
      exec (.wait vp hp bfd ve he) s = .next { s with cop := { s.cop with st := .wait } }
      ∧ exec (.skip vp hp bfd ve he) s = .next { s with cop := { s.cop with st := .skip } })

/-- The comparison: masked beam, one colclock ahead, against masked target, and the blitter unless overridden. States
R249. -/
def Obligations.WaitAndSkipCompareTheBeamWithTheTarget : Prop :=
  ∀ (vp hp : Byte) (bfd : Bool) (ve : BitVec 7) (he : Byte) (s : State),
    let target : Word := (vp ++ hp) &&& 0xFFFE
    let mask : Word := 0x8000 ||| (((0#1 ++ ve) ++ he) &&& 0x7FFE)
    let cur : Word := BitVec.ofNat 16 (256 * (s.beam.vpos.toNat % 256) + (s.beam.hpos.toNat / 2 + 1) % 256)
    let met : Bool := decide ((target &&& mask).toNat ≤ (cur &&& mask).toNat) && (bfd || !s.blt.busy)
    (s.cop.st = .wait →
      exec (.wait vp hp bfd ve he) s = .next (if met then { s with cop := { s.cop with st := .readInst } } else s))
    ∧ (s.cop.st = .skip →
      exec (.skip vp hp bfd ve he) s =
        .next { s with cop := { s.cop with skipNext := s.cop.skipNext || met, st := .readInst } })

/-- Within a line and with a full mask, once the WAIT comparison holds it holds for the rest of the line. Rests on R254,
spec/43_copper.md section 6. -/
def Obligations.FullMaskWaitStaysMetToTheLineEnd : Prop :=
  ∀ (vp hp : Byte) (s s' : State), s.cop.st = .wait → s'.cop.st = .wait → s.beam.vpos = s'.beam.vpos →
    s.beam.hpos.toNat / 2 ≤ s'.beam.hpos.toNat / 2 → s'.beam.hpos.toNat / 2 < 255 →
    exec (.wait vp hp true 0x7F 0xFE) s = .next { s with cop := { s.cop with st := .readInst } } →
    exec (.wait vp hp true 0x7F 0xFE) s' = .next { s' with cop := { s'.cop with st := .readInst } }

/-- The customary end of a list, the words 0xFFFF 0xFFFE, is a WAIT that never resolves within a default line. Rests on
R250, R95, spec/93_implementation_defined.md U16. -/
def Obligations.EndOfListWaitNeverResolves : Prop :=
  decode [0xFF, 0xFF, 0xFF, 0xFE] = .ok (.wait 0xFF 0xFE true 0x7F 0xFE)
    ∧ ∀ s : State, s.cop.st = .wait → s.beam.hpos.toNat / 2 ≤ 0xE2 → exec (.wait 0xFF 0xFE true 0x7F 0xFE) s = .next s

/-- One turn of the copper, state by state, with the enable test first. States R242. -/
def Obligations.CopperTurnFollowsItsState : Prop :=
  ∀ s : State,
    let cond := copperCond (s.cop.ir1.extractLsb' 8 8) (s.cop.ir1.extractLsb' 0 8 &&& 0xFE) (s.cop.ir2.getLsbD 15)
      (s.cop.ir2.extractLsb' 8 7) (s.cop.ir2.extractLsb' 0 8 &&& 0xFE) s
    (s.dmaOn 7 = false → copperTurn s = .next s)
    ∧ (s.dmaOn 7 →
      (s.cop.st = .halted → copperTurn s = .next s)
      ∧ (s.cop.st = .vblank → copperTurn s =
          copperFetch { s with cop := { s.cop with pc := s.cop.lc1, haveIr1 := false, skipNext := false, st := .readInst } })
      ∧ (s.cop.st = .readInst → copperTurn s = copperFetch s)
      ∧ (s.cop.st = .needFreeCycle → copperTurn s =
          .next { s with cop := { s.cop with st := if s.cop.ir2.getLsbD 0 then .skip else .wait } })
      ∧ (s.cop.st = .wait → copperTurn s = .next (if cond then { s with cop := { s.cop with st := .readInst } } else s))
      ∧ (s.cop.st = .skip → copperTurn s =
          .next { s with cop := { s.cop with skipNext := s.cop.skipNext || cond, st := .readInst } })
      ∧ (s.cop.st = .jmpDelay1 → copperTurn s = .next { s with cop := { s.cop with st := .jmpDelay2 } })
      ∧ (s.cop.st = .jmpDelay2 → copperTurn s = .next { s with cop := { s.cop with
          pc := if s.cop.jmpTarget then s.cop.lc2 else s.cop.lc1, haveIr1 := false, st := .readInst } }))

/-- A copper fetch reads one word, moves on by 2, claims the slot, and executes after the second word. States R244,
R245. -/
def Obligations.CopperFetchTakesOneWordAndExecutesTheSecond : Prop :=
  ∀ s : State, s.cop.st = .readInst →
    let w := Mem.readWord s.mem (dmaAddr s s.cop.pc)
    let g := grant .copper s.cop.pc w s
    let c := { s.cop with pc := s.cop.pc + 2 }
    (s.beam.hpos.toNat / 2 ∈ s.cfg.copperBlocked → copperFetch s = .next s)
    ∧ (s.beam.hpos.toNat / 2 ∉ s.cfg.copperBlocked →
      (dmaInRange s s.cop.pc = false → copperFetch s = .fault .chipAddressOutOfRange)
      ∧ (dmaInRange s s.cop.pc → ¬ ptrFits s.cop.pc 2 → copperFetch s = .fault .pointerOverflow)
      ∧ (dmaInRange s s.cop.pc → ptrFits s.cop.pc 2 →
        (s.cop.haveIr1 = false → copperFetch s = .next { g with cop := { c with ir1 := w, haveIr1 := true } })
        ∧ (s.cop.haveIr1 → s.cop.ir1.getLsbD 0 = false → copperFetch s =
            exec (moveOf s.cop.ir1 w) { g with cop := { c with ir2 := w, haveIr1 := false } })
        ∧ (s.cop.haveIr1 → s.cop.ir1.getLsbD 0 → copperFetch s =
            .next { g with cop := { c with ir2 := w, haveIr1 := false, skipNext := false, st := .needFreeCycle } })))

/-- A write of a jump strobe, whatever the value, starts a jump that two copper turns complete. Rests on R252, R253. -/
def Obligations.JumpStrobesTakeTwoTurnsToTheLocationRegister : Prop :=
  (∀ (v : Word) (s : State),
      regWriteReg .copjmp1 v s =
        .next { s with cop := { s.cop with jmpTarget := false, st := .jmpDelay1, haveIr1 := false, skipNext := false } }
      ∧ regWriteReg .copjmp2 v s =
        .next { s with cop := { s.cop with jmpTarget := true, st := .jmpDelay1, haveIr1 := false, skipNext := false } })
    ∧ (∀ s : State, s.dmaOn 7 → s.cop.st = .jmpDelay1 →
        andThen (copperTurn s) copperTurn = .next { s with cop := { s.cop with
          pc := if s.cop.jmpTarget then s.cop.lc2 else s.cop.lc1, haveIr1 := false, st := .readInst } })
    ∧ (∀ (width : Width) (off : Word) (s t : State), customRead width off s = .next t → t.cop = s.cop)

/-- A write of DMACON, INTENA, INTREQ or ADKCON sets or clears exactly the bits written as 1, by bit 15. States R16. -/
def Obligations.SetClearWritesChangeExactlyTheNamedBits : Prop :=
  ∀ (v : Word) (s : State),
    (∃ t, regWriteReg .dmacon v s = .next t ∧ t = { s with dmacon := t.dmacon, aud := t.aud } ∧ ∀ b : Fin 16,
      t.dmacon.getLsbD b = if b.val ≤ 10 ∧ v.getLsbD b then v.getLsbD 15 else s.dmacon.getLsbD b)
    ∧ (∃ x : BitVec 15, regWriteReg .intena v s = .next { s with irq := { s.irq with intena := x } } ∧ ∀ b : Fin 15,
      x.getLsbD b = if v.getLsbD b then v.getLsbD 15 else s.irq.intena.getLsbD b)
    ∧ (∃ x : BitVec 14, regWriteReg .intreq v s = .next { s with irq := { s.irq with intreq := x } } ∧ ∀ b : Fin 14,
      x.getLsbD b = if v.getLsbD b then v.getLsbD 15 else s.irq.intreq.getLsbD b)
    ∧ (∃ x : BitVec 15, regWriteReg .adkcon v s = .next { s with adkcon := x } ∧ ∀ b : Fin 15,
      x.getLsbD b = if v.getLsbD b then v.getLsbD 15 else s.adkcon.getLsbD b)

/-- After a write of DMACON every channel whose enable is off is inactive with no request; the others are untouched.
States R327. -/
def Obligations.DmaconWriteStopsDisabledAudioAtOnce : Prop :=
  ∀ (v : Word) (n : Fin 4) (s t : State), regWriteReg .dmacon v s = .next t →
    t.aud[n] = (if t.dmaOn n.val = false ∧ s.aud[n].st ≠ .inactive
      then { s.aud[n] with st := .inactive, dmareq := false } else s.aud[n])
    ∧ t.irq = s.irq
    ∧ (s.dmaOn n.val = false → s.aud[n].st ≠ .inactive →
        (housekeeping s).aud[n] = { s.aud[n] with st := .inactive, dmareq := false })

/-- The audio registers store their element; the volume is clamped at 64; none is readable. Rests on R328, R80. -/
def Obligations.AudioRegisterWritesStoreTheirElement : Prop :=
  ∀ (n : Fin 4) (v : Word) (s : State),
    regWriteReg (.audlch n) v s =
      .next { s with aud := s.aud.set n { s.aud[n] with lc := v ++ s.aud[n].lc.extractLsb' 0 16 } }
    ∧ regWriteReg (.audlcl n) v s =
      .next { s with aud := s.aud.set n { s.aud[n] with lc := s.aud[n].lc.extractLsb' 16 16 ++ v } }
    ∧ regWriteReg (.audlen n) v s = .next { s with aud := s.aud.set n { s.aud[n] with len := v } }
    ∧ regWriteReg (.audper n) v s = .next { s with aud := s.aud.set n { s.aud[n] with per := v } }
    ∧ regWriteReg (.auddat n) v s = .next { s with aud := s.aud.set n { s.aud[n] with dat := v } }
    ∧ regWriteReg (.audvol n) v s =
      .next { s with aud := s.aud.set n { s.aud[n] with vol := BitVec.ofNat 7 (min (v.toNat % 128) 64) } }
    ∧ ∀ r ∈ [Reg.audlch n, .audlcl n, .audlen n, .audper n, .auddat n, .audvol n], regValue r s = none

/-- Blitter registers store while the blitter is not busy and refuse while it is; BLTSIZE refuses unless stopped. Rests
on spec/93_implementation_defined.md U3, R203, R208, R32, R23. -/
def Obligations.BlitterRegistersRefuseWritesWhileBusy : Prop :=
  ∀ (v : Word) (x : BltChan) (s : State),
    (s.blt.st ≠ .stopped → regWriteReg .bltsize v s = .refused .blitterRegisterBusy)
    ∧ (s.blt.busy → ∀ r ∈ [Reg.bltcon0, .bltcon1, .bltafwm, .bltalwm, .bltpth x, .bltptl x, .bltmod x, .bltcdat, .bltbdat,
        .bltadat], regWriteReg r v s = .refused .blitterRegisterBusy)
    ∧ (s.blt.busy = false →
      regWriteReg .bltcon0 v s = .next { s with blt := { s.blt with con0 := v } }
      ∧ regWriteReg .bltcon1 v s = .next { s with blt := { s.blt with con1 := v } }
      ∧ regWriteReg .bltafwm v s = .next { s with blt := { s.blt with afwm := v } }
      ∧ regWriteReg .bltalwm v s = .next { s with blt := { s.blt with alwm := v } }
      ∧ regWriteReg (.bltpth .a) v s = .next { s with blt := { s.blt with apt := v ++ s.blt.apt.extractLsb' 0 16 } }
      ∧ regWriteReg (.bltptl .a) v s = .next { s with blt := { s.blt with apt := s.blt.apt.extractLsb' 16 16 ++ v } }
      ∧ regWriteReg (.bltmod .a) v s = .next { s with blt := { s.blt with amod := v } }
      ∧ regWriteReg (.bltpth .b) v s = .next { s with blt := { s.blt with bpt := v ++ s.blt.bpt.extractLsb' 0 16 } }
      ∧ regWriteReg (.bltptl .b) v s = .next { s with blt := { s.blt with bpt := s.blt.bpt.extractLsb' 16 16 ++ v } }
      ∧ regWriteReg (.bltmod .b) v s = .next { s with blt := { s.blt with bmod := v } }
      ∧ regWriteReg (.bltpth .c) v s = .next { s with blt := { s.blt with cpt := v ++ s.blt.cpt.extractLsb' 0 16 } }
      ∧ regWriteReg (.bltptl .c) v s = .next { s with blt := { s.blt with cpt := s.blt.cpt.extractLsb' 16 16 ++ v } }
      ∧ regWriteReg (.bltmod .c) v s = .next { s with blt := { s.blt with cmod := v } }
      ∧ regWriteReg (.bltpth .d) v s = .next { s with blt := { s.blt with dpt := v ++ s.blt.dpt.extractLsb' 0 16 } }
      ∧ regWriteReg (.bltptl .d) v s = .next { s with blt := { s.blt with dpt := s.blt.dpt.extractLsb' 16 16 ++ v } }
      ∧ regWriteReg (.bltmod .d) v s = .next { s with blt := { s.blt with dmod := v } }
      ∧ regWriteReg .bltadat v s = .next { s with blt := { s.blt with adat := v } }
      ∧ regWriteReg .bltcdat v s = .next { s with blt := { s.blt with cdat := v } }
      ∧ regWriteReg .bltbdat v s = .next { s with blt := { s.blt with
          bdat := v
          bhold := barrel v s.blt.bold (s.blt.con1.extractLsb' 12 4) (s.blt.con1.getLsbD 1)
          bold := v } })

/-- A write of BLTSIZE to a stopped blitter loads the size and starts it with the busy and zero flags set. Rests on
R203, R101, R218. -/
def Obligations.SizeWriteStartsAStoppedBlitter : Prop :=
  ∀ (v : Word) (s : State), s.blt.st = .stopped →
    ∃ b : Blitter, regWriteReg .bltsize v s = .next { s with blt := b }
      ∧ b.height.toNat = (if v.toNat / 64 = 0 then 1024 else v.toNat / 64) ∧ b.h = b.height
      ∧ b.width.toNat = (if v.toNat % 64 = 0 then 64 else v.toNat % 64) ∧ b.w = b.width
      ∧ b.bhold = (if s.blt.con1.getLsbD 0 then s.blt.bdat.rotateRight (s.blt.con1.toNat / 4096) else s.blt.bhold)
      ∧ b = { s.blt with
          height := b.height, width := b.width, w := b.w, h := b.h, bhold := b.bhold
          phase := 0, dpending := false, dlast := false, aold := 0, bold := 0
          fillCarry := s.blt.con1.getLsbD 2, sign := s.blt.con1.getLsbD 6
          zero := true, busy := true, dotThisLine := false
          startCount := s.cfg.bltStartDelay, st := .starting }

/-- DSKLEN: the first write with bit 15 only stores, the next in a row starts a transfer, one without it stops it.
States R281. -/
def Obligations.DiskLengthWritesStartAndStopTransfers : Prop :=
  ∀ (v : Word) (s : State),
    (v.getLsbD 15 → s.dsk.active → regWriteReg .dsklen v s = .next { s with dsk := { s.dsk with prevEn := true } })
    ∧ (v.getLsbD 15 → s.dsk.active = false → s.dsk.prevEn →
        let d := { s.dsk with len := v, remaining := v.extractLsb' 0 14, synced := false }
        regWriteReg .dsklen v s =
          (if v.toNat % 16384 = 0 then .next (raiseIrq 1 s.cfg.irqDelayDskblk { s with dsk := d })
           else .next { s with dsk := { d with active := true } }))
    ∧ (v.getLsbD 15 → s.dsk.active = false → s.dsk.prevEn = false →
        regWriteReg .dsklen v s = .next { s with dsk := { s.dsk with len := v, prevEn := true } })
    ∧ (v.getLsbD 15 = false →
        let u := if s.dsk.active ∧ s.dsk.len.getLsbD 14 then diskWriteFlush s else s
        regWriteReg .dsklen v s = .next { u with dsk := { u.dsk with active := false, len := v, prevEn := false } })

/-- A write of a pointer's high or low half sets that half and keeps the other, for disk, copper, planes and sprites.
Rests on R32, R80, R253, R289. -/
def Obligations.PointerHalfWritesKeepTheOtherHalf : Prop :=
  ∀ (v : Word) (p : Fin 6) (n : Fin 8) (s : State),
    let hi := fun a : Long => v ++ a.extractLsb' 0 16
    let lo := fun a : Long => a.extractLsb' 16 16 ++ v
    (∀ a : Long, (hi a).toNat = 65536 * v.toNat + a.toNat % 65536 ∧ (lo a).toNat = 65536 * (a.toNat / 65536) + v.toNat)
    ∧ regWriteReg .dskpth v s = .next { s with dsk := { s.dsk with pt := hi s.dsk.pt } }
    ∧ regWriteReg .dskptl v s = .next { s with dsk := { s.dsk with pt := lo s.dsk.pt } }
    ∧ regWriteReg .cop1lch v s = .next { s with cop := { s.cop with lc1 := hi s.cop.lc1 } }
    ∧ regWriteReg .cop1lcl v s = .next { s with cop := { s.cop with lc1 := lo s.cop.lc1 } }
    ∧ regWriteReg .cop2lch v s = .next { s with cop := { s.cop with lc2 := hi s.cop.lc2 } }
    ∧ regWriteReg .cop2lcl v s = .next { s with cop := { s.cop with lc2 := lo s.cop.lc2 } }
    ∧ regWriteReg (.bplpth p) v s = .next { s with bpl := { s.bpl with pt := s.bpl.pt.set p (hi s.bpl.pt[p]) } }
    ∧ regWriteReg (.bplptl p) v s = .next { s with bpl := { s.bpl with pt := s.bpl.pt.set p (lo s.bpl.pt[p]) } }
    ∧ regWriteReg (.sprpth n) v s = .next { s with spr := s.spr.set n { s.spr[n] with pt := hi s.spr[n].pt } }
    ∧ regWriteReg (.sprptl n) v s = .next { s with spr := s.spr.set n { s.spr[n] with pt := lo s.spr[n].pt } }

/-- The seven readable registers return their fields; every other read returns the filler; a dropped write changes
nothing. Rests on R67, R68, R69, R287, R15. -/
def Obligations.RegisterReadsGiveTheDefinedValueOrTheFiller : Prop :=
  ∀ s : State,
    regValue .vposr s = some (BitVec.ofNat 16 (32768 * s.beam.lof.toNat + s.beam.vpos.toNat / 256 % 2))
    ∧ regValue .vhposr s = some (BitVec.ofNat 16 (256 * (s.beam.vpos.toNat % 256) + s.beam.hpos.toNat / 2 % 256))
    ∧ (∃ x, regValue .dmaconr s = some x ∧ ∀ b : Fin 16, x.getLsbD b =
        if b.val = 14 then s.blt.busy else if b.val = 13 then s.blt.zero else b.val ≤ 10 && s.dmacon.getLsbD b)
    ∧ (∃ x, regValue .dskbytr s = some x ∧ ∀ b : Fin 16, x.getLsbD b =
        if b.val = 14 then s.dsk.active && s.dmaOn 4 else if b.val = 13 then s.dsk.len.getLsbD 14
        else b.val = 12 && s.dsk.hold != 0)
    ∧ regValue .adkconr s = some (s.adkcon.setWidth 16)
    ∧ regValue .intenar s = some (s.irq.intena.setWidth 16) ∧ regValue .intreqr s = some (s.irq.intreq.setWidth 16)
    ∧ (∀ off, ((regAt s.cfg off).bind fun r => regValue r s) = none → regRead off s = s.cfg.regFiller)
    ∧ (∀ off x r, regAt s.cfg off = some r → regValue r s = some x → regRead off s = x)
    ∧ (∀ off v, regAt s.cfg off = none → regWrite off v s = .next s)
    ∧ (∀ r v, (regValue r s).isSome → regWriteReg r v s = .next s)

/-- A 16-bit CPU register write has the effect of an unprotected, unmarked MOVE at every mirror; the other access forms.
Rests on R66, R385, R31, R70. -/
def Obligations.CpuRegisterAccessesMatchCopperMoves : Prop :=
  ∀ (unused : BitVec 7) (off : Word) (v : Long) (s : State),
    (off.getLsbD 0 = false → s.cop.skipNext = false →
      (if s.cop.con.getLsbD 1 then s.cfg.copProtectDanger else s.cfg.copProtectSafe).toNat ≤ (off &&& 0x01FE).toNat →
      customWrite .word off v s = exec (.move unused (off &&& 0x01FE) (v.extractLsb' 0 16)) s)
    ∧ customWrite .byte off v s = .refused .customByteWrite
    ∧ customRead .byte off s = .next (s.replied ((if off.getLsbD 0 then (regRead off s).extractLsb' 0 8
        else (regRead off s).extractLsb' 8 8).setWidth 32))
    ∧ (off.getLsbD 0 → customWrite .word off v s = .refused .customOddAccess ∧ customWrite .long off v s = .refused .customOddAccess
        ∧ customRead .word off s = .refused .customOddAccess ∧ customRead .long off s = .refused .customOddAccess)
    ∧ (off.getLsbD 0 = false →
        customWrite .word off v s = regWrite off (v.extractLsb' 0 16) s
        ∧ customRead .word off s = .next (s.replied ((regRead off s).setWidth 32))
        ∧ customRead .long off s = .next (s.replied (regRead off s ++ regRead (off + 2) s))
        ∧ customWrite .long off v s = andThen (customWrite .word off (v >>> 16) s) fun u => customWrite .word (off + 2) v u)

/-- The default register map has each register of the table at its offset and nothing at any other offset. Rests on R32. -/
def Obligations.DefaultRegisterMapPutsTheRegistersAtTheirOffsets : Prop :=
  let at' := regAt Config.default;
    [at' 0x002, at' 0x004, at' 0x006, at' 0x010, at' 0x01A, at' 0x01C, at' 0x01E] =
      [some .dmaconr, some .vposr, some .vhposr, some .adkconr, some .dskbytr, some .intenar, some .intreqr]
    ∧ [at' 0x020, at' 0x022, at' 0x024, at' 0x02E, at' 0x07E] =
      [some .dskpth, some .dskptl, some .dsklen, some .copcon, some .dsksync]
    ∧ [at' 0x040, at' 0x042, at' 0x044, at' 0x046, at' 0x058, at' 0x070, at' 0x072, at' 0x074] =
      [some .bltcon0, some .bltcon1, some .bltafwm, some .bltalwm, some .bltsize, some .bltcdat, some .bltbdat, some .bltadat]
    ∧ [at' 0x048, at' 0x04A, at' 0x04C, at' 0x04E, at' 0x050, at' 0x052, at' 0x054, at' 0x056] =
      [some (.bltpth .c), some (.bltptl .c), some (.bltpth .b), some (.bltptl .b),
       some (.bltpth .a), some (.bltptl .a), some (.bltpth .d), some (.bltptl .d)]
    ∧ [at' 0x060, at' 0x062, at' 0x064, at' 0x066] =
      [some (.bltmod .c), some (.bltmod .b), some (.bltmod .a), some (.bltmod .d)]
    ∧ [at' 0x080, at' 0x082, at' 0x084, at' 0x086, at' 0x088, at' 0x08A] =
      [some .cop1lch, some .cop1lcl, some .cop2lch, some .cop2lcl, some .copjmp1, some .copjmp2]
    ∧ [at' 0x08E, at' 0x090, at' 0x092, at' 0x094, at' 0x096, at' 0x09A, at' 0x09C, at' 0x09E] =
      [some .diwstrt, some .diwstop, some .ddfstrt, some .ddfstop, some .dmacon, some .intena, some .intreq, some .adkcon]
    ∧ [at' 0x100, at' 0x102, at' 0x104, at' 0x108, at' 0x10A] =
      [some .bplcon0, some .bplcon1, some .bplcon2, some .bpl1mod, some .bpl2mod]
    ∧ (∀ (n : Fin 4) (k : Fin 6), at' (BitVec.ofNat 16 (0x0A0 + 0x10 * n.val + 2 * k.val)) =
        some (#v[Reg.audlch n, .audlcl n, .audlen n, .audper n, .audvol n, .auddat n][k]))
    ∧ (∀ p : Fin 6, at' (BitVec.ofNat 16 (0x0E0 + 4 * p.val)) = some (.bplpth p)
        ∧ at' (BitVec.ofNat 16 (0x0E2 + 4 * p.val)) = some (.bplptl p)
        ∧ at' (BitVec.ofNat 16 (0x110 + 2 * p.val)) = some (.bpldat p))
    ∧ (∀ n : Fin 8, at' (BitVec.ofNat 16 (0x120 + 4 * n.val)) = some (.sprpth n)
        ∧ at' (BitVec.ofNat 16 (0x122 + 4 * n.val)) = some (.sprptl n))
    ∧ (∀ (n : Fin 8) (k : Fin 4), at' (BitVec.ofNat 16 (0x140 + 8 * n.val + 2 * k.val)) =
        some (#v[Reg.sprpos n, .sprctl n, .sprdata n, .sprdatb n][k]))
    ∧ (∀ i : Fin 32, at' (BitVec.ofNat 16 (0x180 + 2 * i.val)) = some (.color i))
    ∧ (∀ k : Fin 256, let o := 2 * k.val
        o ∉ [0x002, 0x004, 0x006, 0x010, 0x01A, 0x01C, 0x01E, 0x020, 0x022, 0x024, 0x02E, 0x060, 0x062, 0x064, 0x066, 0x070, 0x072,
          0x074, 0x07E, 0x080, 0x082, 0x084, 0x086, 0x088, 0x08A, 0x08E, 0x090, 0x092, 0x094, 0x096, 0x09A, 0x09C, 0x09E,
          0x100, 0x102, 0x104, 0x108, 0x10A] →
        ¬ (0x040 ≤ o ∧ o ≤ 0x058) → ¬ (0x0A0 ≤ o ∧ o < 0x0E0 ∧ o % 16 < 12) → ¬ (0x0E0 ≤ o ∧ o < 0x0F8) →
        ¬ (0x110 ≤ o ∧ o < 0x11C) → ¬ (0x120 ≤ o ∧ o < 0x180) → ¬ (0x180 ≤ o ∧ o < 0x1C0) → at' (BitVec.ofNat 16 o) = none)
    ∧ (∀ off : Word, at' off = at' (off &&& 0x01FE))

/-- DMA reads and writes use the masked address, big-endian, and fault outside memory; pointer sums fault on overflow.
States R63, R80. -/
def Obligations.DmaAccessesOutsideMemoryOrContainerFault : Prop :=
  ∀ (p : Long) (v : Word) (j : Int) (f : Word → Result) (g : Long → Result) (s : State),
    let a := (p &&& s.cfg.chipAddrMask).toNat
    (a + 1 < s.cfg.chipMemBytes → withMemRead s p f = f (Mem.read s.mem a ++ Mem.read s.mem (a + 1)))
    ∧ (s.cfg.chipMemBytes ≤ a + 1 → withMemRead s p f = .fault .chipAddressOutOfRange
        ∧ memWrite s p v = .fault .chipAddressOutOfRange)
    ∧ (a + 1 < s.cfg.chipMemBytes → Mem.wf s.mem → ∃ m, memWrite s p v = .next { s with mem := m }
        ∧ Mem.read m a = v.extractLsb' 8 8 ∧ Mem.read m (a + 1) = v.extractLsb' 0 8
        ∧ ∀ b, b ≠ a → b ≠ a + 1 → Mem.read m b = Mem.read s.mem b)
    ∧ (ptrFits p j → ∃ q : Long, (q.toNat : Int) = p.toNat + j ∧ withPtrAdd p j g = g q)
    ∧ (¬ ptrFits p j → withPtrAdd p j g = .fault .pointerOverflow)

/-- CPU accesses to chip memory are big-endian and read back what was written; the ROM answers in its place while OVL is
1. Rests on R62, R60, R64, R61, R72. -/
def Obligations.ChipMemoryReadsBackWhatTheCpuWrote : Prop :=
  ∀ (width : Width) (a v : Long) (s : State), Mem.wf s.mem →
    ((width = .byte ∨ a.getLsbD 0 = false) → a.toNat + width.bytes ≤ s.cfg.chipMemBytes →
      ∃ m, chipWrite width a v s = .next { s with mem := m } ∧ Mem.wf m
        ∧ (∀ j, j < width.bytes → Mem.read m (a.toNat + j) = v.extractLsb' (8 * (width.bytes - 1 - j)) 8)
        ∧ (∀ b, b < a.toNat ∨ a.toNat + width.bytes ≤ b → Mem.read m b = Mem.read s.mem b)
        ∧ chipRead width a { s with mem := m } =
            .next ({ s with mem := m }.replied (BitVec.ofNat 32 (v.toNat % 2 ^ (8 * width.bytes)))))
    ∧ (width ≠ .byte → a.getLsbD 0 → chipWrite width a v s = .refused .cpuMisaligned ∧ chipRead width a s = .refused .cpuMisaligned)
    ∧ ((width = .byte ∨ a.getLsbD 0 = false) → s.cfg.chipMemBytes < a.toNat + width.bytes →
        chipWrite width a v s = .refused .outsideWindows ∧ chipRead width a s = .refused .outsideWindows)
    ∧ (¬ (s.cfg.customBase ≤ a.toNat ∧ a.toNat < s.cfg.customBase + s.cfg.customSize) → ciaAnswers s.cfg a.toNat = false →
      ¬ (s.cfg.romBase ≤ a.toNat ∧ a.toNat < s.cfg.romBase + s.cfg.romSize) →
      (ovl s = false → a.toNat < s.cfg.chipMemBytes →
        hostCall (.cpuRead width a) s = hostCall (.chipRead width a) s
        ∧ hostCall (.cpuWrite width a v) s = hostCall (.chipWrite width a v) s)
      ∧ (ovl s → a.toNat < s.cfg.overlaySize → (width = .byte ∨ a.getLsbD 0 = false) →
        let e := { s with out := StepOut.empty }
        hostCall (.cpuWrite width a v) s = .next e
        ∧ ∃ x : Long, hostCall (.cpuRead width a) s = .next (e.replied x) ∧ x.toNat < 2 ^ (8 * width.bytes)
          ∧ ∀ j, j < width.bytes →
            x.extractLsb' (8 * (width.bytes - 1 - j)) 8 = Mem.read s.cfg.rom ((a.toNat + j) % s.cfg.romSize)))

/-- The host's chip-bus accesses are refused without a free cycle the CPU asked for, and one access uses it up. Rests on
R82, spec/93_implementation_defined.md U13. -/
def Obligations.ChipBusAccessNeedsAGrantedFreeCycle : Prop :=
  (∀ (width : Width) (off : Word) (a v : Long) (s : State),
      (s.cpuGrant = false →
        hostCall (.customRead width off) s = .refused .busContract ∧ hostCall (.customWrite width off v) s = .refused .busContract
        ∧ hostCall (.chipRead width a) s = .refused .busContract ∧ hostCall (.chipWrite width a v) s = .refused .busContract)
      ∧ (s.cpuGrant →
        hostCall (.customRead width off) s = customRead width off { s with out := StepOut.empty, cpuGrant := false }
        ∧ hostCall (.customWrite width off v) s = customWrite width off v { s with out := StepOut.empty, cpuGrant := false }
        ∧ hostCall (.chipRead width a) s = chipRead width a { s with out := StepOut.empty, cpuGrant := false }
        ∧ hostCall (.chipWrite width a v) s = chipWrite width a v { s with out := StepOut.empty, cpuGrant := false }))
    ∧ (∀ (wants : Bool) (s t : State), tick wants s = .next t → t.cpuGrant = (t.out.freeCycle && wants))

/-- Display, sprite, colour and copper control registers store; SPRnDATA arms, SPRnCTL disarms, BPL1DAT arms the latch.
Rests on R181, R172, R66, R32, R19, R21, R22, R25. -/
def Obligations.DisplayRegisterWritesStoreArmAndDisarm : Prop :=
  ∀ (v : Word) (i : Fin 32) (n : Fin 8) (p : Fin 6) (s : State),
    regWriteReg .bplcon0 v s = .next { s with bpl := { s.bpl with con0 := v } }
    ∧ regWriteReg .bplcon1 v s = .next { s with bpl := { s.bpl with con1 := v } }
    ∧ regWriteReg .bplcon2 v s = .next { s with bpl := { s.bpl with con2 := v } }
    ∧ regWriteReg .bpl1mod v s = .next { s with bpl := { s.bpl with mod1 := v } }
    ∧ regWriteReg .bpl2mod v s = .next { s with bpl := { s.bpl with mod2 := v } }
    ∧ regWriteReg .diwstrt v s = .next { s with bpl := { s.bpl with diwstrt := v } }
    ∧ regWriteReg .diwstop v s = .next { s with bpl := { s.bpl with diwstop := v } }
    ∧ regWriteReg .ddfstrt v s = .next { s with bpl := { s.bpl with ddfstrt := v } }
    ∧ regWriteReg .ddfstop v s = .next { s with bpl := { s.bpl with ddfstop := v } }
    ∧ regWriteReg .dsksync v s = .next { s with dsk := { s.dsk with sync := v } }
    ∧ regWriteReg .copcon v s = .next { s with cop := { s.cop with con := v } }
    ∧ regWriteReg (.color i) v s = .next { s with color := s.color.set i (v.extractLsb' 0 12) }
    ∧ regWriteReg (.sprdata n) v s = .next { s with spr := s.spr.set n { s.spr[n] with data := v, armed := true } }
    ∧ regWriteReg (.sprctl n) v s = .next { s with spr := s.spr.set n { s.spr[n] with ctl := v, armed := false } }
    ∧ regWriteReg (.sprpos n) v s = .next { s with spr := s.spr.set n { s.spr[n] with pos := v } }
    ∧ regWriteReg (.sprdatb n) v s = .next { s with spr := s.spr.set n { s.spr[n] with datb := v } }
    ∧ (p ≠ 0 → regWriteReg (.bpldat p) v s = .next { s with bpl := { s.bpl with dat := s.bpl.dat.set p v } })
    ∧ (p = 0 → regWriteReg (.bpldat p) v s = .next { s with bpl := { s.bpl with
        dat := s.bpl.dat.set p v
        pendingOdd := true
        dueOdd := latchDelay s.cfg (s.bpl.con1.extractLsb' 0 4) (s.bpl.con0.getLsbD 15)
        pendingEven := true
        dueEven := latchDelay s.cfg (s.bpl.con1.extractLsb' 4 4) (s.bpl.con0.getLsbD 15) } })

/-- The arbitration chain grants exactly the first of the seven requests in the fixed order, or nobody. States R133. -/
def Obligations.ChainGrantsTheFirstRequestInOrder : Prop :=
  (∀ (wants : Bool) (s t : State), s.out.bus = .none → s.out.freeCycle = false → arbitrate wants s = .next t →
      t.out.bus = (if reqRefresh s then .refresh else if reqDisk s then .disk else if reqAudio s then .audio
        else if reqBitplane s then .bitplane else if reqSprite s then .sprite else if reqCopper s then .copper
        else if reqBlitter s then .blitter else .none)
      ∧ (t.out.freeCycle = true ↔ t.out.bus = .none))
    ∧ (∀ s t : State, s.out.bus = .none →
      (fixedTurn .refresh s = .next t → t.claimed = reqRefresh s) ∧ (fixedTurn .disk s = .next t → t.claimed = reqDisk s)
      ∧ (fixedTurn .audio s = .next t → t.claimed = reqAudio s) ∧ (bitplaneTurn s = .next t → t.claimed = reqBitplane s)
      ∧ (fixedTurn .sprite s = .next t → t.claimed = reqSprite s) ∧ (copperTurn s = .next t → t.claimed = reqCopper s)
      ∧ (blitterTurn s = .next t → t.claimed = reqBlitter s))

/-- The CPU-block counter: 0 on a free cycle, one more up to 3 when the CPU wanted a claimed slot, else unchanged. Rests
on R141, R139, R140, R223. -/
def Obligations.CpuBlockCounterFollowsTheSlots : Prop :=
  (∀ (wants : Bool) (s t : State), s.out.bus = .none → arbitrate wants s = .next t →
      t.cpuBlock.toNat = if granted s = .none then 0 else if wants then min (s.cpuBlock.toNat + 1) 3 else s.cpuBlock.toNat)
    ∧ (∀ s : State, busOk s = (decide (s.cpuBlock.toNat < 3) || s.dmacon.getLsbD 10))
    ∧ (∀ s : State, bltNeedsBus s → busOk s = false → blitterTurn s = .next s)

/-- At colclocks 0xE2, 1, 3 and 5 refresh has the bus whatever else is pending, and nothing else changes. States R126. -/
def Obligations.RefreshAlwaysWins : Prop :=
  (∀ (k : Fin 4) (s : State), exec (refreshRow k) s =
        .next { s with out := { s.out with bus := .refresh, dmaAddress := 0, dmaValue := 0 } })
    ∧ (∀ s : State, s.beam.hpos.toNat / 2 ∈ [0xE2, 0x01, 0x03, 0x05] →
        chain s = .next { s with out := { s.out with bus := .refresh, dmaAddress := 0, dmaValue := 0 } })
    ∧ (∀ k : Config, k.wf → 2 * 0xE2 < k.lineTicks)

/-- A tick changes chip memory at most in the one word it reports, and only for the disk or the blitter. Rests on R153,
R122, R81, R63. -/
def Obligations.TickWritesAtMostTheReportedWord : Prop :=
  ∀ (wants : Bool) (s t : State), tick wants s = .next t →
    (SameMem s t ∨ ((t.out.bus = .disk ∨ t.out.bus = .blitter) ∧ SameMemOutsideWord t.out.dmaAddress.toNat s t))
    ∧ (s.beam.hpos.toNat % 2 = 1 → t.out.bus = .none ∧ t.out.freeCycle = false ∧ SameMem s t)

/-- The beam advances by one tick, wraps at line and field end, and starts the line and the field. States R150, R151,
R171, R179. -/
def Obligations.BeamAdvanceWrapsLinesAndFields : Prop :=
  ∀ s : State, s.cfg.wf → BeamInv s →
    let t := beamAdvance s
    let lines := if s.beam.lof then s.cfg.linesLong else s.cfg.linesShort
    let field := s.beam.vpos.toNat + 1 = lines
    (s.beam.hpos.toNat + 1 < s.cfg.lineTicks → t = { s with beam := { s.beam with hpos := s.beam.hpos + 1 } })
    ∧ (s.beam.hpos.toNat + 1 = s.cfg.lineTicks →
      t = { s with beam := t.beam, bpl := t.bpl, spr := t.spr, cop := t.cop, irq := t.irq, out := t.out }
      ∧ (¬ field → t.beam = ⟨0, s.beam.vpos + 1, s.beam.lof⟩ ∧ t.cop = s.cop ∧ t.irq = s.irq ∧ t.out = s.out)
      ∧ (field → t.beam = ⟨0, 0, if s.bpl.con0.getLsbD 2 then !s.beam.lof else s.beam.lof⟩
          ∧ t.cop = { s.cop with st := .vblank, haveIr1 := false, skipNext := false }
          ∧ t.irq = s.irq.raise 5 s.cfg.irqDelayVertb ∧ t.out = { s.out with frame := some (!s.bpl.con0.getLsbD 2) })
      ∧ t.bpl = { s.bpl with ddfOpen := false, ddfPos := 0, ddfLast := false }
      ∧ ∀ n : Fin 8,
          (field → t.spr[n] = { s.spr[n] with active := false, dma := .fetchCtl })
          ∧ (¬ field → t.spr[n] = { s.spr[n] with active := false, dma := (
              if s.spr[n].dma = .fetchCtl then .fetchCtl
              else if t.beam.vpos.extractLsb' 0 9 = BitVec.ofBool (s.spr[n].ctl.getLsbD 1) ++ s.spr[n].ctl.extractLsb' 8 8
                then .fetchCtl
              else if t.beam.vpos.extractLsb' 0 9 = BitVec.ofBool (s.spr[n].ctl.getLsbD 2) ++ s.spr[n].pos.extractLsb' 8 8
                then .fetchData
              else s.spr[n].dma) }))

/-- An audio row with its channel requesting reads one word, restarts at length exhaustion, and plays a first word.
States R324. -/
def Obligations.AudioRowFetchesOneWord : Prop :=
  ∀ (n : Fin 4) (s : State),
    let c := s.aud[n]
    let w := Mem.readWord s.mem (dmaAddr s c.ptr)
    let starting := c.st == .dmaStarting
    let exhausted := c.wlen.toNat == 1
    let c' : AudioChan := { c with
      dat := w, dmareq := starting
      ptr := if exhausted then c.lc else c.ptr + 2
      wlen := if exhausted then c.len else c.wlen - 1
      cur := if starting then w else c.cur
      out := if starting then w.extractLsb' 8 8 else c.out
      percnt := if starting then BitVec.ofNat 16 (max c.per.toNat 113) else c.percnt
      st := if starting then .dmaSamp1 else c.st }
    let g := grant .audio c.ptr w { s with aud := s.aud.set n c' }
    (s.dmaOn n.val → c.dmareq → dmaInRange s c.ptr → ptrFits c.ptr 2 →
      exec (audioRow n) s =
        .next (if exhausted then { g with irq := s.irq.raise ⟨7 + n.val, by omega⟩ s.cfg.irqDelayAudio } else g))
    ∧ (s.dmaOn n.val = false ∨ c.dmareq = false → exec (audioRow n) s = .next s)
    ∧ (s.dmaOn n.val → c.dmareq → dmaInRange s c.ptr = false → exec (audioRow n) s = .fault .chipAddressOutOfRange)

/-- Housekeeping starts enabled channels and plays the halves of each word in turn; the mixer filters and sums twice a
line. Rests on R322, R321, R105, R330, R120. -/
def Obligations.AudioPeriodTickPlaysHalfSamples : Prop :=
  (∀ (n : Fin 4) (s : State),
    let c := s.aud[n]
    let t := (housekeeping s).aud[n]
    let per := BitVec.ofNat 16 (max c.per.toNat 113)
    (s.dmaOn n.val = false → c.st = .inactive → t = c)
    ∧ (s.dmaOn n.val → c.st = .inactive → t = { c with ptr := c.lc, wlen := c.len, dmareq := true, st := .dmaStarting })
    ∧ (s.dmaOn n.val → c.st = .dmaStarting → t = c)
    ∧ (s.dmaOn n.val → c.st = .dmaSamp1 ∨ c.st = .dmaSamp2 → c.percnt.toNat ≠ 1 → t = { c with percnt := c.percnt - 1 })
    ∧ (s.dmaOn n.val → c.st = .dmaSamp1 → c.percnt.toNat = 1 →
        t = { c with percnt := per, st := .dmaSamp2, out := c.cur.extractLsb' 0 8 })
    ∧ (s.dmaOn n.val → c.st = .dmaSamp2 → c.percnt.toNat = 1 →
        t = { c with percnt := per, st := .dmaSamp1, cur := c.dat, out := c.dat.extractLsb' 8 8, dmareq := true }))
    ∧ (∀ s : State,
      let due := s.beam.hpos.toNat = s.cfg.audMixTick1 ∨ s.beam.hpos.toNat = s.cfg.audMixTick2
      let filt := fun n : Fin 4 => audFilter s.cfg s.aud[n].filt (s.aud[n].out.toInt * (s.aud[n].vol.toNat : Int))
      let share := fun n : Fin 4 => audOut s.cfg (filt n)
      let t := audioMixIfDue s
      (¬ due → t = s)
      ∧ (due → t = { s with aud := t.aud, out := { s.out with sample := some (share 0 + share 3, share 1 + share 2) } }
        ∧ ∀ n : Fin 4, t.aud[n] = { s.aud[n] with filt := filt n }))
    ∧ (∀ (wants : Bool) (s t : State), tick wants s = .next t →
      let due := s.beam.hpos.toNat = s.cfg.audMixTick1 ∨ s.beam.hpos.toNat = s.cfg.audMixTick2
      (¬ due → t.out.sample = none ∧ ∀ n : Fin 4, t.aud[n].filt = s.aud[n].filt)
      ∧ (due →
        (∀ n : Fin 4, t.aud[n].filt = audFilter s.cfg s.aud[n].filt (t.aud[n].out.toInt * (t.aud[n].vol.toNat : Int)))
        ∧ t.out.sample = some (audOut s.cfg t.aud[(0 : Fin 4)].filt + audOut s.cfg t.aud[(3 : Fin 4)].filt,
            audOut s.cfg t.aud[(1 : Fin 4)].filt + audOut s.cfg t.aud[(2 : Fin 4)].filt)))
    ∧ (∀ x y : Int, audFilter Config.default y x = y + Int.fdiv (x - y) 2 ∧ audOut Config.default y = y)
    ∧ Config.default.audMixTick1 = 0 ∧ Config.default.audMixTick2 = Config.default.lineTicks / 2

/-- A disk row with a transfer active claims its slot: it waits, hunts for sync, or moves one word; the track load and
the flush. Rests on R283, R284, R285, R288, R286, R127, R282. -/
def Obligations.DiskRowMovesOneWord : Prop :=
  ∀ (k : Fin 3) (s : State),
    (s.dmaOn 4 = false ∨ s.dsk.active = false → exec (diskRow k) s = .next s)
    ∧ (s.dmaOn 4 → s.dsk.active → readyDrive s = none → exec (diskRow k) s = .next (grant .disk s.dsk.pt 0 s))
    ∧ (∀ d : Fin 4,
      let u := trackBufferLoad d s
      (s.dsk.bufValid → u = s)
      ∧ (s.dsk.bufValid = false →
        u = { s with dsk := { s.dsk with
          buf := u.dsk.buf, bufPos := BitVec.ofNat 16 (s.dsk.bufPos.toNat % s.cfg.mfmTrackBytes), bufValid := true } }
        ∧ ∀ m, s.drives[d].media = some m → ∀ b,
          Mem.read u.dsk.buf b = (m.readTrack s.cfg s.drives[d].cyl.toNat s.drives[d].side.toNat).getD b 0))
    ∧ (let size := s.cfg.mfmTrackBytes
       let n := min (2 * (s.dsk.len.extractLsb' 0 14 - s.dsk.remaining).toNat) size
       let data := (List.range n).map fun i => Mem.read s.dsk.buf ((s.dsk.bufPos.toNat + size - n + i) % size)
       let e := { s with dsk := { s.dsk with bufValid := false } }
       (readyDrive s = none ∨ n = 0 → diskWriteFlush s = e)
       ∧ ∀ (d : Fin 4) (m : Medium), readyDrive s = some d → s.drives[d].media = some m →
         (m.writeProtected → diskWriteFlush s = e)
         ∧ (m.writeProtected = false → n ≠ 0 →
           let w := m.writeTrack s.cfg s.drives[d].cyl.toNat s.drives[d].side.toNat data
           (∀ m', w = .ok m' →
             diskWriteFlush s = { e with drives := s.drives.set d { s.drives[d] with media := some m' } })
           ∧ (∀ x, w = .error x → diskWriteFlush s = { e with out := { s.out with mediaError := some x } })))
    ∧ ∀ d : Fin 4, s.dmaOn 4 → s.dsk.active → readyDrive s = some d →
      let u := trackBufferLoad d s
      let pos := BitVec.ofNat 16 ((u.dsk.bufPos.toNat + 2) % s.cfg.mfmTrackBytes)
      let p := s.dsk.pt
      (s.dsk.len.getLsbD 14 = false →
        let w := Mem.readWord u.dsk.buf u.dsk.bufPos.toNat
        let hit := w == s.dsk.sync
        let m := if hit then { u with
            irq := s.irq.raise 12 s.cfg.irqDelayDsksyn
            dsk := { u.dsk with bufPos := pos, hold := s.cfg.dskbytSyncHold } }
          else { u with dsk := { u.dsk with bufPos := pos } }
        (s.adkcon.getLsbD 10 → s.dsk.synced = false →
          exec (diskRow k) s = .next (grant .disk p w { m with dsk := { m.dsk with synced := hit } }))
        ∧ (s.adkcon.getLsbD 10 → s.dsk.synced → hit → exec (diskRow k) s = .next (grant .disk p w m))
        ∧ (s.adkcon.getLsbD 10 = false ∨ (s.dsk.synced ∧ hit = false) → dmaInRange s p → ptrFits p 2 → Mem.wf s.mem →
          ∃ mem, Mem.readWord mem (dmaAddr s p) = w
            ∧ (∀ b, b ≠ dmaAddr s p → b ≠ dmaAddr s p + 1 → Mem.read mem b = Mem.read s.mem b)
            ∧ let r := s.dsk.remaining - 1
              let g := grant .disk p w { m with mem := mem, dsk := { m.dsk with
                pt := p + 2, remaining := r, active := r != 0 } }
              exec (diskRow k) s = .next (if r = 0 then raiseIrq 1 s.cfg.irqDelayDskblk g else g)))
      ∧ (s.dsk.len.getLsbD 14 → dmaInRange s p → ptrFits p 2 →
        let w := Mem.readWord s.mem (dmaAddr s p)
        let r := s.dsk.remaining - 1
        let g := grant .disk p w { u with dsk := { u.dsk with
          buf := Mem.writeWord u.dsk.buf u.dsk.bufPos.toNat w, bufPos := pos, pt := p + 2, remaining := r } }
        let f := diskWriteFlush g
        exec (diskRow k) s =
          .next (if r = 0 then raiseIrq 1 s.cfg.irqDelayDskblk { f with dsk := { f.dsk with active := false } } else g))

/-- A sprite row whose sprite fetches reads one word into the register its state and position choose. States R177, R178. -/
def Obligations.SpriteRowFetchesOneWord : Prop :=
  ∀ (n : Fin 8) (k : Fin 2) (s : State),
    let p := s.spr[n]
    let w := Mem.readWord s.mem (dmaAddr s p.pt)
    let q : Sprite := { p with pt := p.pt + 2 }
    (s.dmaOn 5 → p.dma ≠ .idle → dmaInRange s p.pt → ptrFits p.pt 2 →
      exec (spriteRow n k) s = .next (grant .sprite p.pt w { s with spr := (s.spr.set n
        (if p.dma = .fetchCtl then (if k = 0 then { q with pos := w } else { q with ctl := w, armed := false, dma := .idle })
         else (if k = 0 then { q with data := w, armed := true } else { q with datb := w }))) }))
    ∧ (s.dmaOn 5 = false ∨ p.dma = .idle → exec (spriteRow n k) s = .next s)
    ∧ (s.dmaOn 5 → p.dma ≠ .idle → dmaInRange s p.pt = false → exec (spriteRow n k) s = .fault .chipAddressOutOfRange)

/-- A bitplane turn fetches the scheduled plane inside both windows, with the modulo in the last unit; how the fetch
window moves. Rests on R167, R169, R170, R129, R164, R165, R166. -/
def Obligations.BitplaneTurnFetchesTheScheduledPlane : Prop :=
  ∀ (p : Fin 6) (s : State),
    let vstop := (if s.bpl.diwstop.getLsbD 15 then 0 else 256) + s.bpl.diwstop.toNat / 256
    let inWindow := s.bpl.diwstrt.toNat / 256 ≤ s.beam.vpos.toNat ∧ s.beam.vpos.toNat < vstop
    let hires := s.bpl.con0.getLsbD 15
    let plane : Fin 7 := if hires then s.cfg.schedHires.toList.getD (s.bpl.ddfPos.toNat % 4) 0
      else s.cfg.schedLores.toList.getD (s.bpl.ddfPos.toNat % 8) 0
    let used := s.bpl.con0.toNat / 4096 % 8
    let wanted := inWindow ∧ s.dmaOn 8 ∧ s.bpl.ddfOpen ∧ 1 ≤ plane.val ∧ plane.val ≤ min used 6
    let a := s.bpl.pt[p]
    let w := Mem.readWord s.mem (dmaAddr s a)
    let last : Bool := s.bpl.ddfLast && (!hires || decide (4 ≤ s.bpl.ddfPos.toNat % 8))
    let mod : Int := if last then (if p.val % 2 = 0 then s.bpl.mod1 else s.bpl.mod2).toInt else 0
    (¬ wanted → bitplaneTurn s = .next s)
    ∧ (wanted → plane.val = p.val + 1 → dmaInRange s a → ptrFits a 2 → ptrFits (a + 2) mod →
      bitplaneTurn s = andThen (regWriteReg (.bpldat p) w
          { s with bpl := { s.bpl with pt := s.bpl.pt.set p (a + 2 + BitVec.ofInt 32 mod) } })
        fun u => .next (grant .bitplane a w u))
    ∧ (let cc := s.beam.hpos.toNat / 2
       let clamped := fun v : Word => max s.cfg.ddfMin.toNat (min (v.toNat / 4 % 64 * 4) s.cfg.ddfMax.toNat)
       let stopped := decide (clamped s.bpl.ddfstop ≤ cc)
       let b := s.bpl
       (housekeeping s).bpl =
         if b.ddfOpen then
           if (b.ddfPos + 1).toNat % 8 ≠ 0 then { b with ddfPos := b.ddfPos + 1 }
           else if b.ddfLast then { b with ddfPos := b.ddfPos + 1, ddfOpen := false, ddfLast := false }
           else { b with ddfPos := b.ddfPos + 1, ddfLast := stopped }
         else if cc = clamped b.ddfstrt then { b with ddfOpen := true, ddfPos := 0, ddfLast := stopped }
         else b)

/-- Phase 1: sprites start and shift, plane bits are sampled before the shift, and due groups are latched. States R173,
R174, R182. -/
def Obligations.DisplayPipelineShiftsAndLatches : Prop :=
  ∀ s : State,
    let t := phase1 s
    let k := if s.bpl.con0.getLsbD 15 then 2 else 1
    t = { s with bpl := t.bpl, spr := t.spr }
    ∧ (∀ p : Fin 6,
        let due := if p.val % 2 = 0 then s.bpl.pendingOdd ∧ s.bpl.dueOdd = 0 else s.bpl.pendingEven ∧ s.bpl.dueEven = 0
        (due → t.bpl.shift[p] = s.bpl.dat[p]) ∧ (¬ due → t.bpl.shift[p] = s.bpl.shift[p] <<< k))
    ∧ t.bpl = { s.bpl with
        shift := t.bpl.shift
        pendingOdd := s.bpl.pendingOdd && s.bpl.dueOdd != 0
        dueOdd := if s.bpl.pendingOdd ∧ s.bpl.dueOdd ≠ 0 then s.bpl.dueOdd - 1 else s.bpl.dueOdd
        pendingEven := s.bpl.pendingEven && s.bpl.dueEven != 0
        dueEven := if s.bpl.pendingEven ∧ s.bpl.dueEven ≠ 0 then s.bpl.dueEven - 1 else s.bpl.dueEven }
    ∧ (playfield s).length = k
    ∧ (∀ (sub : Nat) (pf : BitVec 6) (p : Fin 6), (playfield s)[sub]? = some pf →
        pf.getLsbD p = (decide (p.val < s.bpl.con0.toNat / 4096 % 8) && s.bpl.shift[p].getLsbD (15 - sub)))
    ∧ (∀ n : Fin 8,
        let q := s.spr[n]
        let c := if q.armed ∧ s.beam.hpos.toNat = 2 * (q.pos.toNat % 256) + q.ctl.toNat % 2
          then { q with holdA := q.data, holdB := q.datb, active := true } else q
        (c.active → t.spr[n] = { c with holdA := c.holdA <<< 1, holdB := c.holdB <<< 1 }
          ∧ (spritePixels s)[n].toNat = 2 * (c.holdB.getLsbD 15).toNat + (c.holdA.getLsbD 15).toNat)
        ∧ (c.active = false → t.spr[n] = c ∧ (spritePixels s)[n] = 0))
    ∧ (∀ (v : Word) (u : State), regWriteReg (.bpldat 0) v s = .next u →
        let odd := (latchDelay s.cfg (s.bpl.con1.extractLsb' 0 4) (s.bpl.con0.getLsbD 15)).toNat
        let even := (latchDelay s.cfg (s.bpl.con1.extractLsb' 4 4) (s.bpl.con0.getLsbD 15)).toNat
        (∀ j, j ≤ odd → (phase1^[j] u).bpl.pendingOdd) ∧ (∀ j, j ≤ even → (phase1^[j] u).bpl.pendingEven)
        ∧ (phase1^[odd + 1] u).bpl.pendingOdd = false ∧ (phase1^[even + 1] u).bpl.pendingEven = false
        ∧ ∀ p : Fin 6, (phase1^[(if p.val % 2 = 0 then odd else even) + 1] u).bpl.shift[p] = if p = 0 then v else s.bpl.dat[p])
    ∧ ∀ (scroll : BitVec 4) (hires : Bool), (latchDelay Config.default scroll hires).toNat = scroll.toNat

/-- A pixel shows colour 0 outside the window, else the front sprite's or the playfield's colour, as ARGB32. Rests on
R184, R186, R104, R164. -/
def Obligations.PixelsTakeTheColourOfTheFrontLayer : Prop :=
  ∀ (sv : Vector (BitVec 2) 8) (pf : List (BitVec 6)) (s : State),
    let v := s.beam.vpos.toNat
    let h := s.beam.hpos.toNat
    let inside := s.bpl.diwstrt.toNat / 256 ≤ v
      ∧ v < (if s.bpl.diwstop.getLsbD 15 then 0 else 256) + s.bpl.diwstop.toNat / 256
      ∧ s.bpl.diwstrt.toNat % 256 ≤ h ∧ h < 256 + s.bpl.diwstop.toNat % 256
    let rgb := fun c : BitVec 12 =>
      4278190080 + c.toNat / 256 * 1114112 + c.toNat / 16 % 16 * 4352 + c.toNat % 16 * 17
    let t := pixelOutput sv pf s
    t = { s with out := { s.out with pixels := t.out.pixels } }
    ∧ t.out.pixels.length = pf.length
    ∧ ∀ (sub : Nat) (x : BitVec 6) (px : Pixel), pf[sub]? = some x → t.out.pixels[sub]? = some px →
      px.vpos = s.beam.vpos ∧ px.hpos = s.beam.hpos ∧ px.sub = sub
      ∧ (¬ inside → px.argb.toNat = rgb s.color[(0 : Fin 32)])
      ∧ (inside → (∀ n : Fin 8, sv[n] = 0) → px.argb.toNat = rgb (s.color.toList.getD (x.toNat % 32) 0))
      ∧ (inside → ∀ n : Fin 8, sv[n] ≠ 0 → (∀ j : Fin 8, j < n → sv[j] = 0) →
          px.argb.toNat = rgb (s.color.toList.getD
            (if x = 0 ∨ n.val / 2 < s.bpl.con2.toNat / 8 % 8 then 16 + 4 * (n.val / 2) + sv[n].toNat else x.toNat % 32) 0))

/-- Bit i of the minterm is the LF bit its inputs select; fill runs a toggling carry from bit 0 up. States R210, R100,
R213. -/
def Obligations.MintermAndFillBitByBit : Prop :=
  (∀ (lf : Byte) (a b c : Word) (i : Fin 16), (minterm lf a b c).getLsbD i =
        lf.getLsbD (4 * (a.getLsbD i).toNat + 2 * (b.getLsbD i).toNat + (c.getLsbD i).toNat))
    ∧ (∀ (excl carry : Bool) (d : Word),
        let before := fun i : Nat => (List.range i).foldl (fun x j => x != d.getLsbD j) carry
        (∀ i : Fin 16, (fillWord excl carry d).1.getLsbD i =
          if excl then d.getLsbD i != before i else d.getLsbD i || before i)
        ∧ (fillWord excl carry d).2 = before 16)
    ∧ fillWord false false 0x0024 = (0x003C, false) ∧ fillWord true false 0x0024 = (0x001C, false)

/-- An area or fill row whose phase is A, B or C fetches that channel's word and moves its pointer. Rests on R206, R207,
R209, R208, R205. -/
def Obligations.AreaRowFetchesItsChannel : Prop :=
  ∀ (i : Instr) (m : BltMode) (x : BltChan) (s : State), areaModeOf i = some m → x ≠ .d →
    let b := s.blt
    let ph : BltPhase := match x with | .a => .a | .b => .b | .c => .c | .d => .d
    let w := Mem.readWord s.mem (dmaAddr s (b.pt x))
    let dir : Int := if m.desc then -1 else 1
    let step : Int := 2 * dir
    let rest : Int := if b.w.toNat = 1 then dir * (b.mod x).toInt else 0
    let p := b.pt x + BitVec.ofInt 32 step + BitVec.ofInt 32 rest
    let f : Blitter := match x with
      | .a => { b with apt := p, adat := w }
      | .b => { b with bpt := p, bdat := w, bhold := barrel w b.bold m.bsh m.desc, bold := w }
      | .c => { b with cpt := p, cdat := w }
      | .d => b
    (areaPattern s m)[b.phase.toNat]? = some ph →
    (busOk s = false → exec i s = .next s)
    ∧ (busOk s → dmaInRange s (b.pt x) → ptrFits (b.pt x) step → ptrFits (b.pt x + BitVec.ofInt 32 step) rest →
      exec i s = .next (if b.phase.toNat + 1 = (areaPattern s m).length
        then completeWord m (grant .blitter (b.pt x) w { s with blt := { f with phase := 0 } })
        else grant .blitter (b.pt x) w { s with blt := { f with phase := b.phase + 1 } }))

/-- An area or fill row whose phase is D writes the pending word at channel D's pointer; an idle phase only moves on.
Rests on R206, R207, R212, R205. -/
def Obligations.AreaRowWritesThePendingWordOrIdles : Prop :=
  ∀ (i : Instr) (m : BltMode) (s : State), areaModeOf i = some m →
    let b := s.blt
    let n := (areaPattern s m).length
    let a := dmaAddr s b.dpt
    let dir : Int := if m.desc then -1 else 1
    let step : Int := 2 * dir
    let rest : Int := if b.dlast then dir * b.dmod.toInt else 0
    let p := b.dpt + BitVec.ofInt 32 step + BitVec.ofInt 32 rest
    ((areaPattern s m)[b.phase.toNat]? = some .d → b.dpending →
      (busOk s = false → exec i s = .next s)
      ∧ (busOk s → dmaInRange s b.dpt → ptrFits b.dpt step → ptrFits (b.dpt + BitVec.ofInt 32 step) rest → Mem.wf s.mem →
        ∃ mem, Mem.read mem a = b.ddat.extractLsb' 8 8 ∧ Mem.read mem (a + 1) = b.ddat.extractLsb' 0 8
          ∧ (∀ j, j ≠ a → j ≠ a + 1 → Mem.read mem j = Mem.read s.mem j)
          ∧ exec i s = .next (if b.phase.toNat + 1 = n
              then completeWord m (grant .blitter b.dpt b.ddat
                { s with mem := mem, blt := { b with dpt := p, dpending := false, phase := 0 } })
              else grant .blitter b.dpt b.ddat
                { s with mem := mem, blt := { b with dpt := p, dpending := false, phase := b.phase + 1 } })))
    ∧ ((areaPattern s m)[b.phase.toNat]? = some .idle
        ∨ ((areaPattern s m)[b.phase.toNat]? = some .d ∧ b.dpending = false) →
      exec i s = .next (if b.phase.toNat + 1 = n then completeWord m { s with blt := { b with phase := 0 } }
        else { s with blt := { b with phase := b.phase + 1 } }))

/-- A completed word: masks, A shift, minterm, fill, zero flag, pending D word, row and blit end. States R211, R214,
R221. -/
def Obligations.CompletedWordIsMaskedShiftedCombinedAndFilled : Prop :=
  ∀ (m : BltMode) (s : State),
    let b := s.blt
    let last := b.w.toNat == 1
    let done := last && b.h.toNat == 1
    let a0 := if b.w = b.width then b.adat &&& b.afwm else b.adat
    let a := if last then a0 &&& b.alwm else a0
    let sh := b.con0.toNat / 4096
    let ahold : Word := BitVec.ofNat 16 (if m.desc then (65536 * a.toNat + b.aold.toNat) * 2 ^ sh / 65536
      else (65536 * b.aold.toNat + a.toNat) / 2 ^ sh)
    let raw := minterm (b.con0.extractLsb' 0 8) ahold b.bhold b.cdat
    let r := if m.efe || m.ife then fillWord m.efe b.fillCarry raw else (raw, b.fillCarry)
    let t := completeWord m s
    t = { s with blt := t.blt, irq := t.irq }
    ∧ t.irq = (if done then s.irq.raise 6 10 else s.irq)
    ∧ t.blt = { b with
        ahold := ahold, aold := a, zero := b.zero && r.1 == 0
        ddat := if b.con0.getLsbD 8 then r.1 else b.ddat
        dpending := b.con0.getLsbD 8 || b.dpending
        dlast := if b.con0.getLsbD 8 then last else b.dlast
        w := if last then b.width else b.w - 1
        h := if last then b.h - 1 else b.h
        fillCarry := if last then m.fci else r.2
        st := if done then .final else b.st
        busy := if done then false else b.busy }

/-- The line row: a source phase reads the word at pointer C, the D phase draws the dot, an idle phase only moves on.
Rests on R206, R207, R216, R217, R218, R205. -/
def Obligations.LineRowFetchesAndDrawsTheDot : Prop :=
  ∀ (i : Instr) (m : LineMode) (s : State), lineModeOf i = some m →
    let b := s.blt
    let pat := s.cfg.linePattern
    let go := fun (u : State) => if b.phase.toNat + 1 = pat.length
      then completeDot m { u with blt := { u.blt with phase := 0 } }
      else .next { u with blt := { u.blt with phase := b.phase + 1 } }
    let w := Mem.readWord s.mem (dmaAddr s b.cpt)
    let a := dmaAddr s b.dpt
    let dot : Word := if m.sing ∧ b.dotThisLine then 0
      else BitVec.ofNat 16 ((b.adat &&& b.afwm).toNat / 2 ^ (b.con0.toNat / 4096))
    let d := minterm (b.con0.extractLsb' 0 8) dot (if b.bhold.getLsbD 0 then 0xFFFF else 0) b.cdat
    (∀ ph, pat[b.phase.toNat]? = some ph → ph ≠ .idle → busOk s = false → exec i s = .next s)
    ∧ (pat[b.phase.toNat]? = some .idle → exec i s = go s)
    ∧ (∀ ph, pat[b.phase.toNat]? = some ph → ph ≠ .idle → ph ≠ .d → busOk s → dmaInRange s b.cpt →
        exec i s = go (grant .blitter b.cpt w { s with blt := { b with cdat := if b.con0.getLsbD 9 then w else b.cdat } }))
    ∧ (pat[b.phase.toNat]? = some .d → busOk s → (b.con0.getLsbD 8 → dmaInRange s b.dpt) → Mem.wf s.mem →
        ∃ mem, (b.con0.getLsbD 8 → Mem.readWord mem a = d ∧ ∀ j, j ≠ a → j ≠ a + 1 → Mem.read mem j = Mem.read s.mem j)
          ∧ (b.con0.getLsbD 8 = false → mem = s.mem)
          ∧ exec i s = go (grant .blitter b.dpt d { s with mem := mem, blt := { b with
              dotThisLine := true, zero := b.zero && d == 0, ddat := d } }))
    ∧ (∀ ph, pat[b.phase.toNat]? = some ph → busOk s → dmaInRange s b.cpt → dmaInRange s b.dpt →
        65536 ≤ b.cpt.toNat → b.cpt.toNat < 4294967296 - 65536 → ∃ t, exec i s = .next t)

/-- One line step moves the dot by at most one in x and one line pitch in y, as octant bits and error sign say. Rests on
R219, R215, R218, R221. -/
def Obligations.LineStepMovesTheDotByItsOctant : Prop :=
  ∀ (m : LineMode) (s : State), 65536 ≤ s.blt.cpt.toNat → s.blt.cpt.toNat < 4294967296 - 65536 →
    let b := s.blt
    let dx : Int := if m.sud then (if m.aul then -1 else 1) else if b.sign then 0 else if m.sul then -1 else 1
    let dy : Int := if m.sud then (if b.sign then 0 else if m.sul then -1 else 1) else if m.aul then -1 else 1
    let done := b.h.toNat == 1
    let apt := if b.con0.getLsbD 11 then b.apt + (if b.sign then b.bmod.signExtend 32 else b.amod.signExtend 32) else b.apt
    ∃ t, completeDot m s = .next t ∧ t = { s with blt := t.blt, irq := t.irq }
      ∧ 8 * (t.blt.cpt.toNat : Int) + (t.blt.con0.toNat / 4096 : Nat) =
          8 * (b.cpt.toNat : Int) + (b.con0.toNat / 4096 : Nat) + dx + 8 * dy * b.cmod.toInt
      ∧ t.blt.con0.toNat % 4096 = b.con0.toNat % 4096
      ∧ t.irq = (if done then s.irq.raise 6 10 else s.irq)
      ∧ t.blt = { b with
          con0 := t.blt.con0, cpt := t.blt.cpt, dpt := t.blt.cpt, apt := apt, sign := apt.getLsbD 15
          bhold := b.bhold.rotateLeft 1, h := b.h - 1
          dotThisLine := b.dotThisLine && dy == 0
          st := if done then .final else b.st
          busy := if done then false else b.busy }

/-- A starting blitter counts down in housekeeping; a final one writes its last word and stops. States R204, R222. -/
def Obligations.BlitterStartDelayAndFinalFlush : Prop :=
  ∀ s : State,
    ((housekeeping s).blt = (if s.blt.st = .starting then
        (if s.blt.startCount = 0 then { s.blt with st := .running } else { s.blt with startCount := s.blt.startCount - 1 })
      else s.blt))
    ∧ (s.blt.st = .starting ∨ s.blt.st = .stopped → blitterTurn s = .next s)
    ∧ (∀ (v : Word) (u : State), s.blt.st = .stopped → regWriteReg .bltsize v s = .next u → ∀ j : Nat,
        (j ≤ s.cfg.bltStartDelay.toNat → (housekeeping^[j] u).blt.st = .starting)
        ∧ (j = s.cfg.bltStartDelay.toNat + 1 → (housekeeping^[j] u).blt.st = .running))
    ∧ Config.default.bltStartDelay = 2
    ∧ (s.dmaOn 6 → s.blt.st = .final →
      let b := s.blt
      let a := dmaAddr s b.dpt
      let dir : Int := if b.con1.getLsbD 1 then -1 else 1
      let step : Int := 2 * dir
      let rest : Int := if b.dlast then dir * b.dmod.toInt else 0
      (b.dpending = false → blitterTurn s = .next { s with blt := { b with st := .stopped } })
      ∧ (b.dpending → busOk s = false → blitterTurn s = .next s)
      ∧ (b.dpending → busOk s → dmaInRange s b.dpt → ptrFits b.dpt step → ptrFits (b.dpt + BitVec.ofInt 32 step) rest →
          Mem.wf s.mem → ∃ mem, Mem.readWord mem a = b.ddat
            ∧ (∀ j, j ≠ a → j ≠ a + 1 → Mem.read mem j = Mem.read s.mem j)
            ∧ blitterTurn s = .next (grant .blitter b.dpt b.ddat { s with mem := mem, blt := { b with
                dpt := b.dpt + BitVec.ofInt 32 step + BitVec.ofInt 32 rest, dpending := false, st := .stopped } })))

/-- A request raised with delay d sets its bit at the d-th countdown, at once for d = 0, and merges with a running one.
States R372, R374. -/
def Obligations.DelayedRequestsArriveWhenTheirCountEnds : Prop :=
  ∀ (b : Fin 14) (d : Byte) (q : Irq),
    (∃ x, q.raise b 0 = { q with intreq := x } ∧ ∀ j : Fin 14, x.getLsbD j = (q.intreq.getLsbD j || decide (j = b)))
    ∧ (d ≠ 0 → q.countdown[b] ≠ 0 → q.raise b d = q)
    ∧ (d ≠ 0 → q.countdown[b] = 0 → q.raise b d = { q with countdown := q.countdown.set b d } ∧
        ∀ k : Nat, k ≤ d.toNat →
          (Irq.countDown^[k] (q.raise b d)).countdown[b].toNat = d.toNat - k
          ∧ (Irq.countDown^[k] (q.raise b d)).intreq.getLsbD b = (q.intreq.getLsbD b || decide (k = d.toNat)))
    ∧ (q.countDown.countdown[b].toNat = q.countdown[b].toNat - 1
        ∧ q.countDown.intreq.getLsbD b = (q.intreq.getLsbD b || decide (q.countdown[b].toNat = 1))
        ∧ q.countDown = { q with countdown := q.countDown.countdown, intreq := q.countDown.intreq })

/-- The level is the greatest IPL_TABLE entry of an enabled pending bit, and shows IPL_LATENCY ticks after it changed.
States R376. -/
def Obligations.LevelIsTheMaximumAndArrivesAfterTheLatency : Prop :=
  ∀ (k : Config) (q : Irq),
    let lvl := irqLevel k q
    (q.intena.getLsbD 14 = false → lvl = 0)
    ∧ (q.intena.getLsbD 14 →
      (∀ b : Fin 14, q.intena.getLsbD b → q.intreq.getLsbD b → k.iplTable[b].toNat ≤ lvl.toNat)
      ∧ (lvl = 0 ∨ ∃ b : Fin 14, q.intena.getLsbD b ∧ q.intreq.getLsbD b ∧ lvl = k.iplTable[b]))
    ∧ (let delay := if lvl ≠ q.iplTarget then k.iplLatency else if q.iplDelay = 0 then 0 else q.iplDelay - 1
       q.update k = { q with iplTarget := lvl, iplDelay := delay, iplCurrent := if delay = 0 then lvl else q.iplCurrent })
    ∧ (lvl ≠ q.iplTarget → ∀ j : Nat,
        (j < k.iplLatency.toNat → ((Irq.update k)^[j + 1] q).iplCurrent = q.iplCurrent)
        ∧ (j = k.iplLatency.toNat → ((Irq.update k)^[j + 1] q).iplCurrent = lvl))
    ∧ Config.default.iplLatency = 2

/-- CIA timers A and B, event counters, control and latch writes, the divider, register 13 and the interrupt lines.
Rests on R353, R351, R356, R357, R359, R352. -/
def Obligations.CiaTimersFlagsAndLines : Prop :=
  (∀ (c : Cia) (k : Nat), c.cra.getLsbD 0 → c.cra.getLsbD 5 = false →
      (k ≤ c.ta.toNat → (Cia.timerTick^[k] c).ta.toNat = c.ta.toNat - k)
      ∧ (k = c.ta.toNat + 1 → (Cia.timerTick^[k] c).ta = c.taLatch ∧ (Cia.timerTick^[k] c).icrData.getLsbD 0))
    ∧ (∀ (c : Cia) (k : Nat), c.crb.getLsbD 0 → c.crb.toNat / 32 % 4 = 0 →
      (k ≤ c.tb.toNat → (Cia.timerTick^[k] c).tb.toNat = c.tb.toNat - k)
      ∧ (k = c.tb.toNat + 1 → (Cia.timerTick^[k] c).tb = c.tbLatch ∧ (Cia.timerTick^[k] c).icrData.getLsbD 1))
    ∧ (∀ c : Cia,
      let onA := c.cra.getLsbD 0 && !c.cra.getLsbD 5
      let ufA := onA && c.ta == 0
      let onB := c.crb.getLsbD 0 && (c.crb.toNat / 32 % 4 == 0 || (c.crb.toNat / 32 % 4 == 2 && ufA))
      let ufB := onB && c.tb == 0
      let t := c.timerTick
      t = { c with
        ta := if ufA then c.taLatch else if onA then c.ta - 1 else c.ta
        tb := if ufB then c.tbLatch else if onB then c.tb - 1 else c.tb
        cra := if ufA && c.cra.getLsbD 3 then c.cra &&& 0xFE else c.cra
        crb := if ufB && c.crb.getLsbD 3 then c.crb &&& 0xFE else c.crb
        icrData := t.icrData
        irq := c.irq || ((ufA || ufB) && t.icrData &&& c.icrMask != 0) }
      ∧ ∀ b : Fin 5, t.icrData.getLsbD b = (c.icrData.getLsbD b || (b == 0 && ufA) || (b == 1 && ufB)))
    ∧ (∀ c : Cia,
      let n : BitVec 24 := BitVec.ofNat 24 ((c.tod.toNat + 1) % 16777216)
      let hit := n == c.alarm
      let t := c.todPulse
      t = { c with tod := n, icrData := t.icrData, irq := c.irq || (hit && t.icrData &&& c.icrMask != 0) }
      ∧ ∀ b : Fin 5, t.icrData.getLsbD b = (c.icrData.getLsbD b || (b == 2 && hit)))
    ∧ (∀ (wants : Bool) (s t : State), tick wants s = .next t → s.ciaDiv.toNat < 10 →
      t.ciaDiv.toNat = (s.ciaDiv.toNat + 1) % 10
      ∧ (s.ciaDiv.toNat ≠ 9 → t.ciaA.ta = s.ciaA.ta ∧ t.ciaB.ta = s.ciaB.ta)
      ∧ (s.ciaDiv.toNat = 9 → t.ciaA.ta = s.ciaA.timerTick.ta ∧ t.ciaB.ta = s.ciaB.timerTick.ta)
      ∧ t.ciaB.tod = (if s.beam.hpos = 0 then s.ciaB.tod + 1 else s.ciaB.tod)
      ∧ t.ciaA.tod = (if s.beam.hpos = 0 ∧ s.beam.vpos = 0 then s.ciaA.tod + 1 else s.ciaA.tod)
      ∧ (t.ciaA.irq → t.irq.intreq.getLsbD 3) ∧ (t.ciaB.irq → t.irq.intreq.getLsbD 13))
    ∧ (∀ (i : CiaId) (v : Byte) (k : Fin 3) (s : State),
      let c := s.cia i
      let answer := fun c' : Cia => Host.Outcome.next ({ s with out := StepOut.empty }.setCia i c')
      let ta := v ++ c.taLatch.extractLsb' 0 8
      let tb := v ++ c.tbLatch.extractLsb' 0 8
      let put := fun x : BitVec 24 =>
        #v[x.extractLsb' 8 16 ++ v, x.extractLsb' 16 8 ++ v ++ x.extractLsb' 0 8, v ++ x.extractLsb' 0 16][k]
      hostCall (.ciaWrite i 4 v) s = answer { c with taLatch := c.taLatch.extractLsb' 8 8 ++ v }
      ∧ hostCall (.ciaWrite i 6 v) s = answer { c with tbLatch := c.tbLatch.extractLsb' 8 8 ++ v }
      ∧ hostCall (.ciaWrite i 5 v) s = answer { c with
          taLatch := ta
          ta := if c.cra.getLsbD 0 = false ∨ c.cra.getLsbD 3 then ta else c.ta
          cra := if c.cra.getLsbD 3 then c.cra ||| 1 else c.cra }
      ∧ hostCall (.ciaWrite i 7 v) s = answer { c with
          tbLatch := tb
          tb := if c.crb.getLsbD 0 = false ∨ c.crb.getLsbD 3 then tb else c.tb
          crb := if c.crb.getLsbD 3 then c.crb ||| 1 else c.crb }
      ∧ hostCall (.ciaWrite i 14 v) s = answer { c with cra := v &&& 0xEF, ta := if v.getLsbD 4 then c.taLatch else c.ta }
      ∧ hostCall (.ciaWrite i 15 v) s = answer { c with crb := v &&& 0xEF, tb := if v.getLsbD 4 then c.tbLatch else c.tb }
      ∧ hostCall (.ciaWrite i (BitVec.ofNat 4 (8 + k.val)) v) s = answer
          (if c.crb.getLsbD 7 then { c with alarm := put c.alarm } else { c with tod := put c.tod }))
    ∧ (∀ (i : CiaId) (v : Byte) (s : State),
      (∃ t, hostCall (.ciaRead i 13) s = .next t
        ∧ t.out.reply = some (BitVec.ofNat 32 (128 * (s.cia i).irq.toNat + (s.cia i).icrData.toNat))
        ∧ t.cia i = { s.cia i with icrData := 0, irq := false })
      ∧ (∃ t, hostCall (.ciaWrite i 13 v) s = .next t
        ∧ (∀ b : Fin 5, (t.cia i).icrMask.getLsbD b = if v.getLsbD b then v.getLsbD 7 else (s.cia i).icrMask.getLsbD b)
        ∧ (t.cia i).irq = ((s.cia i).irq || decide ((s.cia i).icrData &&& (t.cia i).icrMask ≠ 0))))

/-- CIA port writes and reads, the drive control lines they move, selection, motors, side, heads, status lines and index
pulses. Rests on R291, R292, R293, R295, R296, R284, R354, R355, R358, R282, R352. -/
def Obligations.DrivesFollowTheirControlLines : Prop :=
  (∀ (old new : Byte) (s : State),
      let t := driveControl old new s
      t = { s with drives := t.drives, dsk := { s.dsk with bufValid := t.dsk.bufValid } }
      ∧ (∀ d : Fin 4, s.cfg.numDrives ≤ d.val → t.drives[d] = s.drives[d])
      ∧ (∀ d : Fin 4, d.val < s.cfg.numDrives →
          let v := s.drives[d]
          let u := t.drives[d]
          let sel := !new.getLsbD (3 + d.val)
          let turnOn := !new.getLsbD 7
          let motorCmd := sel && old.getLsbD (3 + d.val) && turnOn != v.motor
          let stepped := sel && old.getLsbD 0 && !new.getLsbD 0
          u = { v with
            motor := if motorCmd then turnOn else v.motor
            spin := if motorCmd then s.cfg.motorDelayTicks else v.spin
            side := if sel then !new.getLsbD 2 else v.side
            dir := if sel then new.getLsbD 1 else v.dir
            cyl := u.cyl }
          ∧ u.cyl.toNat = (if stepped then (if new.getLsbD 1 then v.cyl.toNat - 1 else min (v.cyl.toNat + 1) s.cfg.maxCylinder.toNat)
              else v.cyl.toNat)
          ∧ (t.dsk.bufValid → stepped = false ∧ old.getLsbD (3 + d.val) = new.getLsbD (3 + d.val) ∧ u.side = v.side)))
    ∧ (∀ (k : Config) (v : Drive),
        let spin := if v.spin = 0 then 0 else v.spin - 1
        v.tick k = { v with
          spin := spin
          index := if v.motor ∨ spin ≠ 0 then (if v.index = 1 then k.revolutionTicks else v.index - 1) else v.index })
    ∧ (∀ s : State,
        let some' := fun p : Drive → Prop => ∃ d : Fin 4, driveSelected s d ∧ p s.drives[d]
        ((driveStatus s).getLsbD 5 = false ↔ some' fun v => v.motor ∧ v.spin = 0)
        ∧ ((driveStatus s).getLsbD 4 = false ↔ some' fun v => v.cyl = 0)
        ∧ ((driveStatus s).getLsbD 3 = false ↔ some' fun v => ∀ m, v.media = some m → m.writeProtected)
        ∧ ((driveStatus s).getLsbD 2 = false ↔ some' fun v => v.media = none))
    ∧ (∀ (v : Byte) (s : State),
        let e := { s with out := StepOut.empty }
        let moved := fun c : Cia =>
          let t := { e with ciaB := c }
          if driveLines t = driveLines s then t else driveControl (driveLines s) (driveLines t) t
        hostCall (.ciaWrite .b 1 v) s = .next (moved { s.ciaB with prb := v })
        ∧ hostCall (.ciaWrite .b 3 v) s = .next (moved { s.ciaB with ddrb := v })
        ∧ hostCall (.ciaWrite .b 0 v) s = .next { e with ciaB := { s.ciaB with pra := v } }
        ∧ hostCall (.ciaWrite .b 2 v) s = .next { e with ciaB := { s.ciaB with ddra := v } }
        ∧ hostCall (.ciaWrite .a 0 v) s = .next { e with ciaA := { s.ciaA with pra := v } }
        ∧ hostCall (.ciaWrite .a 1 v) s = .next { e with ciaA := { s.ciaA with prb := v } }
        ∧ hostCall (.ciaWrite .a 2 v) s = .next { e with ciaA := { s.ciaA with ddra := v } }
        ∧ hostCall (.ciaWrite .a 3 v) s = .next { e with ciaA := { s.ciaA with ddrb := v } }
        ∧ (∀ b : Fin 8, (driveLines s).getLsbD b = if s.ciaB.ddrb.getLsbD b then s.ciaB.prb.getLsbD b else true)
        ∧ ∀ i : CiaId,
          let c := s.cia i
          ∃ pa pb : Byte,
            hostCall (.ciaRead i 0) s = .next (e.replied (pa.setWidth 32))
            ∧ hostCall (.ciaRead i 1) s = .next (e.replied (pb.setWidth 32))
            ∧ ∀ b : Fin 8,
              pa.getLsbD b = (if c.ddra.getLsbD b then c.pra.getLsbD b else if i = .a then (driveStatus s).getLsbD b else true)
              ∧ pb.getLsbD b = (if c.ddrb.getLsbD b then c.prb.getLsbD b else true))
    ∧ (∀ (d : Fin 4) (s : State),
        (driveSelected s d ↔ d.val < s.cfg.numDrives ∧ (driveLines s).getLsbD (3 + d.val) = false)
        ∧ let ready := fun j : Fin 4 =>
            driveSelected s j ∧ s.drives[j].media ≠ none ∧ s.drives[j].motor ∧ s.drives[j].spin = 0
          (readyDrive s = some d ↔ ready d ∧ ∀ j : Fin 4, j < d → ¬ ready j)
          ∧ (readyDrive s = none ↔ ∀ j : Fin 4, ¬ ready j))
    ∧ (let pulse := fun s : State =>
         ∃ d : Fin 4, driveSelected s d ∧ (s.drives[d].motor ∨ 1 < s.drives[d].spin.toNat) ∧ s.drives[d].index = 1
       let ticked := fun (s : State) (d : Fin 4) => if d.val < s.cfg.numDrives then s.drives[d].tick s.cfg else s.drives[d]
       (∀ s : State,
         let t := driveTicks s
         let flags := s.ciaB.icrData ||| 0x10
         t = { s with drives := t.drives, ciaB := t.ciaB } ∧ (∀ d : Fin 4, t.drives[d] = ticked s d)
         ∧ (pulse s → t.ciaB = { s.ciaB with icrData := flags, irq := s.ciaB.irq || flags &&& s.ciaB.icrMask != 0 })
         ∧ (¬ pulse s → t.ciaB = s.ciaB))
       ∧ ∀ (wants : Bool) (s t : State), tick wants s = .next t →
         (t.ciaB.icrData.getLsbD 4 ↔ s.ciaB.icrData.getLsbD 4 ∨ pulse s)
         ∧ ∀ d : Fin 4, { t.drives[d] with media := s.drives[d].media } = ticked s d)

/-- Encoding a track and decoding it gives back all eleven sectors, in order, with their payloads. Rests on R300, R298,
R299, R106, R107, R110. -/
def Obligations.TrackDecodesToTheSectorsEncoded : Prop :=
  (∀ (k : Config) (c h : Nat) (secs : List (List Long)), k.wf → c ≤ 79 → h ≤ 1 → secs.length = 11 →
      (∀ sec ∈ secs, sec.length = 128) →
      (encodeTrack k c h secs).length = k.mfmTrackBytes
      ∧ decodeTrack k c h (encodeTrack k c h secs) =
          .ok ((List.range 11).zip (secs.map fun sec => sec.flatMap bytesOfLong)))
    ∧ ∀ (p q : Bool) (x : Long), joinHalves (mfmHalf p (oddHalf x)) (mfmHalf q (evenHalf x)) = x

/-- reset(): every element at its reset value, memory and media kept; the state after power-on meets the invariant.
Rests on R400, R401, R13, R23, R29. -/
def Obligations.ResetZeroesTheChipAndKeepsMemoryAndMedia : Prop :=
  (∀ s : State, ∃ t, hostCall .reset s = .next t ∧ t.cfg = s.cfg ∧ t.mem = s.mem ∧ t.host = s.host
      ∧ t.beam = ⟨0, 0, false⟩ ∧ t.dmacon = 0 ∧ t.adkcon = 0 ∧ t.cpuBlock = 0 ∧ t.ciaDiv = 0
      ∧ t.irq = ⟨0, 0, Vector.replicate 14 0, 0, 0, 0⟩
      ∧ t.bpl = ⟨0, 0, 0, Vector.replicate 6 0, 0, 0, Vector.replicate 6 0, 0, 0, 0, 0, Vector.replicate 6 0, false, false, 0, 0,
          Vector.replicate 6 0, false, 0, false⟩
      ∧ (∀ i : Fin 32, t.color[i] = 0) ∧ (∀ n : Fin 8, t.spr[n] = ⟨0, 0, 0, 0, 0, 0, 0, false, false, .idle⟩)
      ∧ t.blt = ⟨0, 0, 0, 0, 0, 0, 0, 0, 0, 0, 0, 0, 0, 0, 0, 0, 0, 0, .stopped, 0, 0, 0, 0, 0, 0, 0, 0,
          false, false, false, false, false, false, false⟩
      ∧ t.cop = ⟨.halted, 0, 0, 0, false, false, false, 0, 0, 0⟩
      ∧ (∀ n : Fin 4, t.aud[n] = ⟨.inactive, 0, 0, 0, 0, 0, 0, 0, 0, 0, false, 0, 0⟩)
      ∧ t.dsk = { t.dsk with pt := 0, len := 0, prevEn := false, active := false, remaining := 0, synced := false, sync := 0
                             hold := 0, bufPos := 0, bufValid := false }
      ∧ (∀ d : Fin 4, t.drives[d] = ⟨false, 0, false, false, 0, s.cfg.revolutionTicks, s.drives[d].media⟩)
      ∧ t.ciaA = ⟨0, 0, 0, 0, 0, 0, 0xFFFF, 0xFFFF, 0, 0, 0, 0, 0, 0, 0, false⟩ ∧ t.ciaB = t.ciaA
      ∧ ovl t ∧ led t ∧ ∀ d : Fin 4, driveSelected t d = false)
    ∧ State.reset = State.afterReset Config.default [] (Vector.replicate 4 none) [] ∧ State.reset.Inv

/-- Every step keeps chip memory, track buffer, ROM and every sector image canonical and inside their bounds. Rests on
R60, R63, R111, R284, R297, R299, R301. -/
def Obligations.StepKeepsMemoriesCanonical : Prop :=
  ∀ s t : State, s.cfg.wf → DiskInv s → MemoryInv s → step s = .next t → t.cfg = s.cfg ∧ MemoryInv t

/-- Every step keeps beam, copper latch and blitter sequencer in order, and never reaches an unreachable cycle entry.
Rests on R13, R150, R240, R242, R200, R206, R381. -/
def Obligations.StepKeepsBeamCopperAndBlitterInOrder : Prop :=
  ∀ s : State, s.cfg.wf → BeamInv s → CopperInv s → BlitterInv s →
    step s ≠ .fault .unreachableCycleEntry ∧ ∀ t, step s = .next t → BeamInv t ∧ CopperInv t ∧ BlitterInv t

/-- Every step keeps levels, DMA bits, volumes, disk position, heads, index countdowns and CIA control in bounds. Rests
on R17, R375, R15, R328, R327, R284, R281, R293, R295, R351, R352. -/
def Obligations.StepKeepsControlAudioDiskDriveAndCiaBounds : Prop :=
  ∀ s t : State, s.cfg.wf → step s = .next t →
    (ControlInv s → ControlInv t) ∧ (AudioInv s → AudioInv t) ∧ (DiskInv s → DiskInv t) ∧ (DriveInv s → DriveInv t)
    ∧ (CiaInv s → CiaInv t)
end

