-- ==== Sys2Proof/Laws/Memory.lean ====
section
/-! SUPPORT. The laws of byte memory: read after write, the canonical form kept by every operation, and equality by reads. -/

namespace Sys2Proof.Machine

/-- An address below every listed one reads as unwritten. -/
theorem Mem.read_below (m : Memory) (lo a : Nat) (h : Mem.wfAbove lo m) (ha : a < lo) : Mem.read m a = unwrittenByte := by
  induction m generalizing lo with
  | nil => rfl
  | cons c m ih =>
    obtain ⟨b, w⟩ := c
    simp only [Mem.wfAbove, Bool.and_eq_true, decide_eq_true_eq] at h
    have hb : b ≠ a := by omega
    simp only [Mem.read, hb, if_false]
    exact ih (b + 1) h.2 (by omega)

/-- A weaker lower bound. -/
theorem Mem.wfAbove_mono (m : Memory) (lo lo' : Nat) (h : Mem.wfAbove lo m) (hl : lo' ≤ lo) : Mem.wfAbove lo' m := by
  cases m with
  | nil => rfl
  | cons c m =>
    obtain ⟨b, w⟩ := c
    simp only [Mem.wfAbove, Bool.and_eq_true, decide_eq_true_eq] at h ⊢
    exact ⟨⟨by omega, h.1.2⟩, h.2⟩

/-- A write leaves every other address alone. -/
theorem Mem.read_write_ne (m : Memory) (a b : Nat) (v : Byte) (h : b ≠ a) : Mem.read (Mem.write m a v) b = Mem.read m b := by
  induction m with
  | nil =>
    simp only [Mem.write]
    split <;> simp [Mem.read, h.symm]
  | cons c m ih =>
    obtain ⟨k, w⟩ := c
    simp only [Mem.write]
    split
    · split <;> simp [Mem.read, h.symm]
    · split
      · rename_i hk
        subst hk
        split <;> simp [Mem.read, h.symm]
      · simp only [Mem.read, ih]

/-- A write keeps the canonical form above a bound that its address meets. -/
theorem Mem.wfAbove_write (m : Memory) (lo a : Nat) (v : Byte) (h : Mem.wfAbove lo m) (ha : lo ≤ a) :
    Mem.wfAbove lo (Mem.write m a v) := by
  induction m generalizing lo with
  | nil =>
    simp only [Mem.write]
    split
    · rfl
    · rename_i hv
      simp [Mem.wfAbove, hv, ha]
  | cons c m ih =>
    obtain ⟨k, w⟩ := c
    simp only [Mem.wfAbove, Bool.and_eq_true, decide_eq_true_eq] at h
    simp only [Mem.write]
    split
    · rename_i hk
      split
      · simp only [Mem.wfAbove, Bool.and_eq_true, decide_eq_true_eq]
        exact h
      · rename_i hv
        simp only [Mem.wfAbove, Bool.and_eq_true, decide_eq_true_eq]
        exact ⟨⟨ha, hv⟩, ⟨by omega, h.1.2⟩, h.2⟩
    · rename_i hk
      split
      · rename_i he
        subst he
        split
        · exact Mem.wfAbove_mono m (k + 1) lo h.2 (by omega)
        · rename_i hv
          simp only [Mem.wfAbove, Bool.and_eq_true, decide_eq_true_eq]
          exact ⟨⟨ha, hv⟩, h.2⟩
      · simp only [Mem.wfAbove, Bool.and_eq_true, decide_eq_true_eq]
        exact ⟨h.1, ih (k + 1) h.2 (by omega)⟩

/-- A write keeps the canonical form. -/
theorem Mem.wf_write (m : Memory) (a : Nat) (v : Byte) (h : Mem.wf m) : Mem.wf (Mem.write m a v) :=
  Mem.wfAbove_write m 0 a v h (Nat.zero_le a)

/-- A read after a write to the same address gives the value written. -/
theorem Mem.read_write_same (m : Memory) (a : Nat) (v : Byte) (h : Mem.wf m) : Mem.read (Mem.write m a v) a = v := by
  unfold Mem.wf at h
  generalize hlo : (0 : Nat) = lo at h
  have hle : lo ≤ a := by omega
  clear hlo
  induction m generalizing lo with
  | nil =>
    simp only [Mem.write]
    split
    · rename_i hv
      simp [Mem.read, hv]
    · simp [Mem.read]
  | cons c m ih =>
    obtain ⟨k, w⟩ := c
    simp only [Mem.wfAbove, Bool.and_eq_true, decide_eq_true_eq] at h
    simp only [Mem.write]
    split
    · rename_i hk
      split
      · rename_i hv
        have hne : k ≠ a := by omega
        simp only [Mem.read, hne, if_false, hv]
        exact Mem.read_below m (k + 1) a h.2 (by omega)
      · simp [Mem.read]
    · split
      · rename_i hk he
        subst he
        split
        · rename_i hv
          rw [hv]
          exact Mem.read_below m (k + 1) k h.2 (by omega)
        · simp [Mem.read]
      · rename_i hk he
        simp only [Mem.read, he, if_false]
        exact ih (k + 1) h.2 (by omega)

/-- A write inside a bound lists nothing outside it. -/
theorem Mem.below_write (n : Nat) (m : Memory) (a : Nat) (v : Byte) (h : Mem.below n m) (ha : a < n) :
    Mem.below n (Mem.write m a v) := by
  induction m with
  | nil =>
    simp only [Mem.write]
    split
    · rfl
    · simpa [Mem.below] using ha
  | cons c m ih =>
    obtain ⟨k, w⟩ := c
    simp only [Mem.below, List.all_cons, Bool.and_eq_true, decide_eq_true_eq] at h ih
    simp only [Mem.write]
    split
    · split <;> simp only [Mem.below, List.all_cons, Bool.and_eq_true, decide_eq_true_eq]
      · exact h
      · exact ⟨ha, h⟩
    · split
      · split
        · exact h.2
        · simp only [Mem.below, List.all_cons, Bool.and_eq_true, decide_eq_true_eq]
          exact ⟨ha, h.2⟩
      · simp only [Mem.below, List.all_cons, Bool.and_eq_true, decide_eq_true_eq]
        exact ⟨h.1, ih h.2⟩

/-! ### Words and runs of bytes -/

theorem Mem.wf_writeWord (m : Memory) (a : Nat) (v : Word) (h : Mem.wf m) : Mem.wf (Mem.writeWord m a v) :=
  Mem.wf_write _ _ _ (Mem.wf_write _ _ _ h)

theorem Mem.below_writeWord (n : Nat) (m : Memory) (a : Nat) (v : Word) (h : Mem.below n m) (ha : a + 1 < n) :
    Mem.below n (Mem.writeWord m a v) :=
  Mem.below_write n _ _ _ (Mem.below_write n _ _ _ h (by omega)) ha

/-- A word write leaves every address outside its two bytes alone. -/
theorem Mem.read_writeWord_ne (m : Memory) (a b : Nat) (v : Word) (h0 : b ≠ a) (h1 : b ≠ a + 1) :
    Mem.read (Mem.writeWord m a v) b = Mem.read m b := by
  unfold Mem.writeWord
  rw [Mem.read_write_ne _ _ _ _ h1, Mem.read_write_ne _ _ _ _ h0]

/-- A word read after a word write to the same address gives the word written. -/
theorem Mem.readWord_writeWord (m : Memory) (a : Nat) (v : Word) (h : Mem.wf m) :
    Mem.readWord (Mem.writeWord m a v) a = v := by
  unfold Mem.readWord Mem.writeWord
  rw [Mem.read_write_ne _ _ _ _ (by omega : a ≠ a + 1), Mem.read_write_same _ _ _ h,
    Mem.read_write_same _ _ _ (Mem.wf_write _ _ _ h)]
  ext i hi
  simp only [BitVec.getElem_append, BitVec.getElem_extractLsb']
  split
  · simp [BitVec.getLsbD_eq_getElem hi]
  · rename_i hi8
    rw [show 8 + (i - 8) = i by omega]
    exact BitVec.getLsbD_eq_getElem hi

theorem Mem.wf_writeBytes (m : Memory) (a : Nat) (bytes : List Byte) (h : Mem.wf m) : Mem.wf (Mem.writeBytes m a bytes) := by
  induction bytes generalizing m a with
  | nil => exact h
  | cons v vs ih => exact ih _ _ (Mem.wf_write m a v h)

/-- Memory built from a list of bytes is canonical above its first address. -/
theorem Mem.wfAbove_ofBytes (a : Nat) (bytes : List Byte) : Mem.wfAbove a (Mem.ofBytes a bytes) := by
  induction bytes generalizing a with
  | nil => rfl
  | cons v vs ih =>
    simp only [Mem.ofBytes]
    split
    · exact Mem.wfAbove_mono _ _ _ (ih (a + 1)) (by omega)
    · rename_i hv
      simp [Mem.wfAbove, hv, ih (a + 1)]

theorem Mem.wf_ofBytes (bytes : List Byte) : Mem.wf (Mem.ofBytes 0 bytes) := Mem.wfAbove_ofBytes 0 bytes

/-- Memories in canonical form that read alike are equal data. -/
theorem Mem.ext_of_wf (m n : Memory) (hm : Mem.wf m) (hn : Mem.wf n) (h : ∀ a, Mem.read m a = Mem.read n a) : m = n := by
  unfold Mem.wf at hm hn
  generalize (0 : Nat) = lo at hm hn
  induction m generalizing n lo with
  | nil =>
    cases n with
    | nil => rfl
    | cons c n =>
      obtain ⟨b, w⟩ := c
      simp only [Mem.wfAbove, Bool.and_eq_true, decide_eq_true_eq] at hn
      have := h b
      simp only [Mem.read, if_true] at this
      exact absurd this.symm hn.1.2
  | cons c m ih =>
    obtain ⟨b, w⟩ := c
    have hm' := hm
    simp only [Mem.wfAbove, Bool.and_eq_true, decide_eq_true_eq] at hm'
    cases n with
    | nil =>
      have := h b
      simp only [Mem.read, if_true] at this
      exact absurd this hm'.1.2
    | cons d n =>
      obtain ⟨e, u⟩ := d
      have hn' := hn
      simp only [Mem.wfAbove, Bool.and_eq_true, decide_eq_true_eq] at hn'
      have hb := h b
      have he := h e
      simp only [Mem.read, if_true] at hb he
      rcases Nat.lt_trichotomy b e with hlt | heq | hgt
      · have hne : e ≠ b := by omega
        simp only [hne, if_false] at hb
        rw [Mem.read_below n (e + 1) b hn'.2 (by omega)] at hb
        exact absurd hb hm'.1.2
      · subst heq
        simp only [if_true] at hb
        subst hb
        congr 1
        refine ih n (fun a => ?_) (b + 1) hm'.2 hn'.2
        by_cases hab : b = a
        · subst hab
          rw [Mem.read_below m (b + 1) b hm'.2 (by omega), Mem.read_below n (b + 1) b hn'.2 (by omega)]
        · have := h a
          simpa only [Mem.read, hab, if_false] using this
      · have hne : b ≠ e := by omega
        simp only [hne, if_false] at he
        rw [Mem.read_below m (b + 1) e hm'.2 (by omega)] at he
        exact absurd he.symm hn'.1.2

/-- Putting sectors into an image keeps its canonical form. -/
theorem wf_putSectors (c h : Nat) (image : Memory) (secs : List (Nat × List Byte)) (hi : Mem.wf image) :
    Mem.wf (putSectors c h image secs) := by
  induction secs generalizing image with
  | nil => exact hi
  | cons x rest ih =>
    obtain ⟨s, data⟩ := x
    exact ih _ (Mem.wf_writeBytes _ _ _ hi)

theorem Mem.below_writeBytes (n : Nat) (m : Memory) (a : Nat) (bytes : List Byte) (h : Mem.below n m)
    (ha : a + bytes.length ≤ n) : Mem.below n (Mem.writeBytes m a bytes) := by
  induction bytes generalizing m a with
  | nil => exact h
  | cons v vs ih =>
    simp only [List.length_cons] at ha
    exact ih _ _ (Mem.below_write n m a v h (by omega)) (by omega)

theorem Mem.below_ofBytes (n a : Nat) (bytes : List Byte) (ha : a + bytes.length ≤ n) : Mem.below n (Mem.ofBytes a bytes) := by
  induction bytes generalizing a with
  | nil => rfl
  | cons v vs ih =>
    simp only [List.length_cons] at ha
    have := ih (a + 1) (by omega)
    simp only [Mem.ofBytes]
    split
    · exact this
    · simp only [Mem.below, List.all_cons, Bool.and_eq_true, decide_eq_true_eq] at this ⊢
      exact ⟨by omega, this⟩

/-- The sector numbers and data lengths the decoder can answer with (R299). -/
def SectorOk (x : Nat × List Byte) : Prop := x.1 ≤ 10 ∧ x.2.length = sectorBytes

theorem decodeSector_ok (cf : Bool) (c h : Nat) (seen : List Nat) (b : List Byte) (x : Nat × List Byte)
    (hx : decodeSector cf c h seen b = .ok x) : SectorOk x := by
  unfold decodeSector at hx
  extract_lets hdr hsum track s q r at hx
  iterate 5 (split at hx; · cases hx)
  split at hx <;> cases hx
  refine ⟨by omega, ?_⟩
  simp [bytesOfLong, List.length_flatMap, sectorBytes]

theorem decodeFrom_ok (cf : Bool) (c h fuel : Nat) (found : List (Nat × List Byte)) (bytes : List Byte)
    (secs : List (Nat × List Byte)) (hf : ∀ x ∈ found, SectorOk x)
    (hs : decodeFrom cf c h fuel found bytes = .ok secs) : ∀ x ∈ secs, SectorOk x := by
  induction fuel generalizing found bytes with
  | zero => cases hs; exact hf
  | succ n ih =>
    match bytes with
    | [] => cases hs; exact hf
    | [_] => cases hs; exact hf
    | a :: b :: rest =>
      simp only [decodeFrom] at hs
      split at hs
      · split at hs
        · cases hs
        · split at hs
          · cases hs
          · rename_i sec hsec
            refine ih _ _ (fun x hx => ?_) hs
            rcases List.mem_append.1 hx with hx | hx
            · exact hf x hx
            · rw [List.mem_singleton.1 hx]
              exact decodeSector_ok _ _ _ _ _ _ hsec
      · exact ih _ _ hf hs

/-- Sectors put into an image stay inside it (R111). -/
theorem below_putSectors (c h : Nat) (image : Memory) (secs : List (Nat × List Byte)) (hc : c < cylinders) (hh : h ≤ 1)
    (hs : ∀ x ∈ secs, SectorOk x) (hi : Mem.below imageBytes image) : Mem.below imageBytes (putSectors c h image secs) := by
  induction secs generalizing image with
  | nil => exact hi
  | cons x rest ih =>
    obtain ⟨s, data⟩ := x
    obtain ⟨hle, hlen⟩ := hs _ (List.mem_cons_self ..)
    refine ih _ (fun y hy => hs y (List.mem_cons_of_mem _ hy)) (Mem.below_writeBytes _ _ _ _ hi ?_)
    simp only [cylinders] at hc
    simp only [sectorOffset, imageBytes, cylinders, heads, sectorsPerTrack, sectorBytes] at hlen hle ⊢
    omega

/-- A track written back leaves the medium's image in canonical form and inside its bounds (R299, R301). -/
theorem Medium.ok_writeTrack (k : Config) (m m' : Medium) (c h : Nat) (bytes : List Byte) (hm : m.ok) (hh : h ≤ 1)
    (hw : m.writeTrack k c h bytes = .ok m') : m'.ok := by
  unfold Medium.writeTrack at hw
  simp only [Medium.ok, Bool.and_eq_true] at hm ⊢
  split at hw
  · cases hw; exact hm
  · split at hw
    · cases hw
    · rename_i secs hsecs
      cases hw
      split
      · rename_i hc
        exact ⟨wf_putSectors _ _ _ _ hm.1,
          below_putSectors _ _ _ _ hc hh (decodeFrom_ok _ _ _ _ _ _ _ (by simp) hsecs) hm.2⟩
      · exact hm

end Sys2Proof.Machine
end

