-- ==== Sys2Proof/Laws/State.lean ====
section
/-! SUPPORT. What each update of the state does to each field, by `rfl`, so that no proof unfolds a record update. -/

namespace Sys2Proof.Machine

@[simp] theorem State.withMem_cfg (s : State) (x : Memory) : (s.withMem x).cfg = s.cfg := rfl
@[simp] theorem State.withMem_mem (s : State) (x : Memory) : (s.withMem x).mem = x := rfl
@[simp] theorem State.withMem_beam (s : State) (x : Memory) : (s.withMem x).beam = s.beam := rfl
@[simp] theorem State.withMem_dmacon (s : State) (x : Memory) : (s.withMem x).dmacon = s.dmacon := rfl
@[simp] theorem State.withMem_irq (s : State) (x : Memory) : (s.withMem x).irq = s.irq := rfl
@[simp] theorem State.withMem_cpuBlock (s : State) (x : Memory) : (s.withMem x).cpuBlock = s.cpuBlock := rfl
@[simp] theorem State.withMem_bpl (s : State) (x : Memory) : (s.withMem x).bpl = s.bpl := rfl
@[simp] theorem State.withMem_color (s : State) (x : Memory) : (s.withMem x).color = s.color := rfl
@[simp] theorem State.withMem_spr (s : State) (x : Memory) : (s.withMem x).spr = s.spr := rfl
@[simp] theorem State.withMem_blt (s : State) (x : Memory) : (s.withMem x).blt = s.blt := rfl
@[simp] theorem State.withMem_cop (s : State) (x : Memory) : (s.withMem x).cop = s.cop := rfl
@[simp] theorem State.withMem_aud (s : State) (x : Memory) : (s.withMem x).aud = s.aud := rfl
@[simp] theorem State.withMem_adkcon (s : State) (x : Memory) : (s.withMem x).adkcon = s.adkcon := rfl
@[simp] theorem State.withMem_dsk (s : State) (x : Memory) : (s.withMem x).dsk = s.dsk := rfl
@[simp] theorem State.withMem_drives (s : State) (x : Memory) : (s.withMem x).drives = s.drives := rfl
@[simp] theorem State.withMem_ciaA (s : State) (x : Memory) : (s.withMem x).ciaA = s.ciaA := rfl
@[simp] theorem State.withMem_ciaB (s : State) (x : Memory) : (s.withMem x).ciaB = s.ciaB := rfl
@[simp] theorem State.withMem_ciaDiv (s : State) (x : Memory) : (s.withMem x).ciaDiv = s.ciaDiv := rfl
@[simp] theorem State.withMem_host (s : State) (x : Memory) : (s.withMem x).host = s.host := rfl
@[simp] theorem State.withMem_out (s : State) (x : Memory) : (s.withMem x).out = s.out := rfl
@[simp] theorem State.withMem_cpuGrant (s : State) (x : Memory) : (s.withMem x).cpuGrant = s.cpuGrant := rfl

@[simp] theorem State.withBeam_cfg (s : State) (x : Beam) : (s.withBeam x).cfg = s.cfg := rfl
@[simp] theorem State.withBeam_mem (s : State) (x : Beam) : (s.withBeam x).mem = s.mem := rfl
@[simp] theorem State.withBeam_beam (s : State) (x : Beam) : (s.withBeam x).beam = x := rfl
@[simp] theorem State.withBeam_dmacon (s : State) (x : Beam) : (s.withBeam x).dmacon = s.dmacon := rfl
@[simp] theorem State.withBeam_irq (s : State) (x : Beam) : (s.withBeam x).irq = s.irq := rfl
@[simp] theorem State.withBeam_cpuBlock (s : State) (x : Beam) : (s.withBeam x).cpuBlock = s.cpuBlock := rfl
@[simp] theorem State.withBeam_bpl (s : State) (x : Beam) : (s.withBeam x).bpl = s.bpl := rfl
@[simp] theorem State.withBeam_color (s : State) (x : Beam) : (s.withBeam x).color = s.color := rfl
@[simp] theorem State.withBeam_spr (s : State) (x : Beam) : (s.withBeam x).spr = s.spr := rfl
@[simp] theorem State.withBeam_blt (s : State) (x : Beam) : (s.withBeam x).blt = s.blt := rfl
@[simp] theorem State.withBeam_cop (s : State) (x : Beam) : (s.withBeam x).cop = s.cop := rfl
@[simp] theorem State.withBeam_aud (s : State) (x : Beam) : (s.withBeam x).aud = s.aud := rfl
@[simp] theorem State.withBeam_adkcon (s : State) (x : Beam) : (s.withBeam x).adkcon = s.adkcon := rfl
@[simp] theorem State.withBeam_dsk (s : State) (x : Beam) : (s.withBeam x).dsk = s.dsk := rfl
@[simp] theorem State.withBeam_drives (s : State) (x : Beam) : (s.withBeam x).drives = s.drives := rfl
@[simp] theorem State.withBeam_ciaA (s : State) (x : Beam) : (s.withBeam x).ciaA = s.ciaA := rfl
@[simp] theorem State.withBeam_ciaB (s : State) (x : Beam) : (s.withBeam x).ciaB = s.ciaB := rfl
@[simp] theorem State.withBeam_ciaDiv (s : State) (x : Beam) : (s.withBeam x).ciaDiv = s.ciaDiv := rfl
@[simp] theorem State.withBeam_host (s : State) (x : Beam) : (s.withBeam x).host = s.host := rfl
@[simp] theorem State.withBeam_out (s : State) (x : Beam) : (s.withBeam x).out = s.out := rfl
@[simp] theorem State.withBeam_cpuGrant (s : State) (x : Beam) : (s.withBeam x).cpuGrant = s.cpuGrant := rfl

@[simp] theorem State.withDmacon_cfg (s : State) (x : Word) : (s.withDmacon x).cfg = s.cfg := rfl
@[simp] theorem State.withDmacon_mem (s : State) (x : Word) : (s.withDmacon x).mem = s.mem := rfl
@[simp] theorem State.withDmacon_beam (s : State) (x : Word) : (s.withDmacon x).beam = s.beam := rfl
@[simp] theorem State.withDmacon_dmacon (s : State) (x : Word) : (s.withDmacon x).dmacon = x := rfl
@[simp] theorem State.withDmacon_irq (s : State) (x : Word) : (s.withDmacon x).irq = s.irq := rfl
@[simp] theorem State.withDmacon_cpuBlock (s : State) (x : Word) : (s.withDmacon x).cpuBlock = s.cpuBlock := rfl
@[simp] theorem State.withDmacon_bpl (s : State) (x : Word) : (s.withDmacon x).bpl = s.bpl := rfl
@[simp] theorem State.withDmacon_color (s : State) (x : Word) : (s.withDmacon x).color = s.color := rfl
@[simp] theorem State.withDmacon_spr (s : State) (x : Word) : (s.withDmacon x).spr = s.spr := rfl
@[simp] theorem State.withDmacon_blt (s : State) (x : Word) : (s.withDmacon x).blt = s.blt := rfl
@[simp] theorem State.withDmacon_cop (s : State) (x : Word) : (s.withDmacon x).cop = s.cop := rfl
@[simp] theorem State.withDmacon_aud (s : State) (x : Word) : (s.withDmacon x).aud = s.aud := rfl
@[simp] theorem State.withDmacon_adkcon (s : State) (x : Word) : (s.withDmacon x).adkcon = s.adkcon := rfl
@[simp] theorem State.withDmacon_dsk (s : State) (x : Word) : (s.withDmacon x).dsk = s.dsk := rfl
@[simp] theorem State.withDmacon_drives (s : State) (x : Word) : (s.withDmacon x).drives = s.drives := rfl
@[simp] theorem State.withDmacon_ciaA (s : State) (x : Word) : (s.withDmacon x).ciaA = s.ciaA := rfl
@[simp] theorem State.withDmacon_ciaB (s : State) (x : Word) : (s.withDmacon x).ciaB = s.ciaB := rfl
@[simp] theorem State.withDmacon_ciaDiv (s : State) (x : Word) : (s.withDmacon x).ciaDiv = s.ciaDiv := rfl
@[simp] theorem State.withDmacon_host (s : State) (x : Word) : (s.withDmacon x).host = s.host := rfl
@[simp] theorem State.withDmacon_out (s : State) (x : Word) : (s.withDmacon x).out = s.out := rfl
@[simp] theorem State.withDmacon_cpuGrant (s : State) (x : Word) : (s.withDmacon x).cpuGrant = s.cpuGrant := rfl

@[simp] theorem State.withIrq_cfg (s : State) (x : Irq) : (s.withIrq x).cfg = s.cfg := rfl
@[simp] theorem State.withIrq_mem (s : State) (x : Irq) : (s.withIrq x).mem = s.mem := rfl
@[simp] theorem State.withIrq_beam (s : State) (x : Irq) : (s.withIrq x).beam = s.beam := rfl
@[simp] theorem State.withIrq_dmacon (s : State) (x : Irq) : (s.withIrq x).dmacon = s.dmacon := rfl
@[simp] theorem State.withIrq_irq (s : State) (x : Irq) : (s.withIrq x).irq = x := rfl
@[simp] theorem State.withIrq_cpuBlock (s : State) (x : Irq) : (s.withIrq x).cpuBlock = s.cpuBlock := rfl
@[simp] theorem State.withIrq_bpl (s : State) (x : Irq) : (s.withIrq x).bpl = s.bpl := rfl
@[simp] theorem State.withIrq_color (s : State) (x : Irq) : (s.withIrq x).color = s.color := rfl
@[simp] theorem State.withIrq_spr (s : State) (x : Irq) : (s.withIrq x).spr = s.spr := rfl
@[simp] theorem State.withIrq_blt (s : State) (x : Irq) : (s.withIrq x).blt = s.blt := rfl
@[simp] theorem State.withIrq_cop (s : State) (x : Irq) : (s.withIrq x).cop = s.cop := rfl
@[simp] theorem State.withIrq_aud (s : State) (x : Irq) : (s.withIrq x).aud = s.aud := rfl
@[simp] theorem State.withIrq_adkcon (s : State) (x : Irq) : (s.withIrq x).adkcon = s.adkcon := rfl
@[simp] theorem State.withIrq_dsk (s : State) (x : Irq) : (s.withIrq x).dsk = s.dsk := rfl
@[simp] theorem State.withIrq_drives (s : State) (x : Irq) : (s.withIrq x).drives = s.drives := rfl
@[simp] theorem State.withIrq_ciaA (s : State) (x : Irq) : (s.withIrq x).ciaA = s.ciaA := rfl
@[simp] theorem State.withIrq_ciaB (s : State) (x : Irq) : (s.withIrq x).ciaB = s.ciaB := rfl
@[simp] theorem State.withIrq_ciaDiv (s : State) (x : Irq) : (s.withIrq x).ciaDiv = s.ciaDiv := rfl
@[simp] theorem State.withIrq_host (s : State) (x : Irq) : (s.withIrq x).host = s.host := rfl
@[simp] theorem State.withIrq_out (s : State) (x : Irq) : (s.withIrq x).out = s.out := rfl
@[simp] theorem State.withIrq_cpuGrant (s : State) (x : Irq) : (s.withIrq x).cpuGrant = s.cpuGrant := rfl

@[simp] theorem State.withCpuBlock_cfg (s : State) (x : BitVec 2) : (s.withCpuBlock x).cfg = s.cfg := rfl
@[simp] theorem State.withCpuBlock_mem (s : State) (x : BitVec 2) : (s.withCpuBlock x).mem = s.mem := rfl
@[simp] theorem State.withCpuBlock_beam (s : State) (x : BitVec 2) : (s.withCpuBlock x).beam = s.beam := rfl
@[simp] theorem State.withCpuBlock_dmacon (s : State) (x : BitVec 2) : (s.withCpuBlock x).dmacon = s.dmacon := rfl
@[simp] theorem State.withCpuBlock_irq (s : State) (x : BitVec 2) : (s.withCpuBlock x).irq = s.irq := rfl
@[simp] theorem State.withCpuBlock_cpuBlock (s : State) (x : BitVec 2) : (s.withCpuBlock x).cpuBlock = x := rfl
@[simp] theorem State.withCpuBlock_bpl (s : State) (x : BitVec 2) : (s.withCpuBlock x).bpl = s.bpl := rfl
@[simp] theorem State.withCpuBlock_color (s : State) (x : BitVec 2) : (s.withCpuBlock x).color = s.color := rfl
@[simp] theorem State.withCpuBlock_spr (s : State) (x : BitVec 2) : (s.withCpuBlock x).spr = s.spr := rfl
@[simp] theorem State.withCpuBlock_blt (s : State) (x : BitVec 2) : (s.withCpuBlock x).blt = s.blt := rfl
@[simp] theorem State.withCpuBlock_cop (s : State) (x : BitVec 2) : (s.withCpuBlock x).cop = s.cop := rfl
@[simp] theorem State.withCpuBlock_aud (s : State) (x : BitVec 2) : (s.withCpuBlock x).aud = s.aud := rfl
@[simp] theorem State.withCpuBlock_adkcon (s : State) (x : BitVec 2) : (s.withCpuBlock x).adkcon = s.adkcon := rfl
@[simp] theorem State.withCpuBlock_dsk (s : State) (x : BitVec 2) : (s.withCpuBlock x).dsk = s.dsk := rfl
@[simp] theorem State.withCpuBlock_drives (s : State) (x : BitVec 2) : (s.withCpuBlock x).drives = s.drives := rfl
@[simp] theorem State.withCpuBlock_ciaA (s : State) (x : BitVec 2) : (s.withCpuBlock x).ciaA = s.ciaA := rfl
@[simp] theorem State.withCpuBlock_ciaB (s : State) (x : BitVec 2) : (s.withCpuBlock x).ciaB = s.ciaB := rfl
@[simp] theorem State.withCpuBlock_ciaDiv (s : State) (x : BitVec 2) : (s.withCpuBlock x).ciaDiv = s.ciaDiv := rfl
@[simp] theorem State.withCpuBlock_host (s : State) (x : BitVec 2) : (s.withCpuBlock x).host = s.host := rfl
@[simp] theorem State.withCpuBlock_out (s : State) (x : BitVec 2) : (s.withCpuBlock x).out = s.out := rfl
@[simp] theorem State.withCpuBlock_cpuGrant (s : State) (x : BitVec 2) : (s.withCpuBlock x).cpuGrant = s.cpuGrant := rfl

@[simp] theorem State.withBpl_cfg (s : State) (x : Bitplane) : (s.withBpl x).cfg = s.cfg := rfl
@[simp] theorem State.withBpl_mem (s : State) (x : Bitplane) : (s.withBpl x).mem = s.mem := rfl
@[simp] theorem State.withBpl_beam (s : State) (x : Bitplane) : (s.withBpl x).beam = s.beam := rfl
@[simp] theorem State.withBpl_dmacon (s : State) (x : Bitplane) : (s.withBpl x).dmacon = s.dmacon := rfl
@[simp] theorem State.withBpl_irq (s : State) (x : Bitplane) : (s.withBpl x).irq = s.irq := rfl
@[simp] theorem State.withBpl_cpuBlock (s : State) (x : Bitplane) : (s.withBpl x).cpuBlock = s.cpuBlock := rfl
@[simp] theorem State.withBpl_bpl (s : State) (x : Bitplane) : (s.withBpl x).bpl = x := rfl
@[simp] theorem State.withBpl_color (s : State) (x : Bitplane) : (s.withBpl x).color = s.color := rfl
@[simp] theorem State.withBpl_spr (s : State) (x : Bitplane) : (s.withBpl x).spr = s.spr := rfl
@[simp] theorem State.withBpl_blt (s : State) (x : Bitplane) : (s.withBpl x).blt = s.blt := rfl
@[simp] theorem State.withBpl_cop (s : State) (x : Bitplane) : (s.withBpl x).cop = s.cop := rfl
@[simp] theorem State.withBpl_aud (s : State) (x : Bitplane) : (s.withBpl x).aud = s.aud := rfl
@[simp] theorem State.withBpl_adkcon (s : State) (x : Bitplane) : (s.withBpl x).adkcon = s.adkcon := rfl
@[simp] theorem State.withBpl_dsk (s : State) (x : Bitplane) : (s.withBpl x).dsk = s.dsk := rfl
@[simp] theorem State.withBpl_drives (s : State) (x : Bitplane) : (s.withBpl x).drives = s.drives := rfl
@[simp] theorem State.withBpl_ciaA (s : State) (x : Bitplane) : (s.withBpl x).ciaA = s.ciaA := rfl
@[simp] theorem State.withBpl_ciaB (s : State) (x : Bitplane) : (s.withBpl x).ciaB = s.ciaB := rfl
@[simp] theorem State.withBpl_ciaDiv (s : State) (x : Bitplane) : (s.withBpl x).ciaDiv = s.ciaDiv := rfl
@[simp] theorem State.withBpl_host (s : State) (x : Bitplane) : (s.withBpl x).host = s.host := rfl
@[simp] theorem State.withBpl_out (s : State) (x : Bitplane) : (s.withBpl x).out = s.out := rfl
@[simp] theorem State.withBpl_cpuGrant (s : State) (x : Bitplane) : (s.withBpl x).cpuGrant = s.cpuGrant := rfl

@[simp] theorem State.withColor_cfg (s : State) (x : Vector (BitVec 12) 32) : (s.withColor x).cfg = s.cfg := rfl
@[simp] theorem State.withColor_mem (s : State) (x : Vector (BitVec 12) 32) : (s.withColor x).mem = s.mem := rfl
@[simp] theorem State.withColor_beam (s : State) (x : Vector (BitVec 12) 32) : (s.withColor x).beam = s.beam := rfl
@[simp] theorem State.withColor_dmacon (s : State) (x : Vector (BitVec 12) 32) : (s.withColor x).dmacon = s.dmacon := rfl
@[simp] theorem State.withColor_irq (s : State) (x : Vector (BitVec 12) 32) : (s.withColor x).irq = s.irq := rfl
@[simp] theorem State.withColor_cpuBlock (s : State) (x : Vector (BitVec 12) 32) : (s.withColor x).cpuBlock = s.cpuBlock := rfl
@[simp] theorem State.withColor_bpl (s : State) (x : Vector (BitVec 12) 32) : (s.withColor x).bpl = s.bpl := rfl
@[simp] theorem State.withColor_color (s : State) (x : Vector (BitVec 12) 32) : (s.withColor x).color = x := rfl
@[simp] theorem State.withColor_spr (s : State) (x : Vector (BitVec 12) 32) : (s.withColor x).spr = s.spr := rfl
@[simp] theorem State.withColor_blt (s : State) (x : Vector (BitVec 12) 32) : (s.withColor x).blt = s.blt := rfl
@[simp] theorem State.withColor_cop (s : State) (x : Vector (BitVec 12) 32) : (s.withColor x).cop = s.cop := rfl
@[simp] theorem State.withColor_aud (s : State) (x : Vector (BitVec 12) 32) : (s.withColor x).aud = s.aud := rfl
@[simp] theorem State.withColor_adkcon (s : State) (x : Vector (BitVec 12) 32) : (s.withColor x).adkcon = s.adkcon := rfl
@[simp] theorem State.withColor_dsk (s : State) (x : Vector (BitVec 12) 32) : (s.withColor x).dsk = s.dsk := rfl
@[simp] theorem State.withColor_drives (s : State) (x : Vector (BitVec 12) 32) : (s.withColor x).drives = s.drives := rfl
@[simp] theorem State.withColor_ciaA (s : State) (x : Vector (BitVec 12) 32) : (s.withColor x).ciaA = s.ciaA := rfl
@[simp] theorem State.withColor_ciaB (s : State) (x : Vector (BitVec 12) 32) : (s.withColor x).ciaB = s.ciaB := rfl
@[simp] theorem State.withColor_ciaDiv (s : State) (x : Vector (BitVec 12) 32) : (s.withColor x).ciaDiv = s.ciaDiv := rfl
@[simp] theorem State.withColor_host (s : State) (x : Vector (BitVec 12) 32) : (s.withColor x).host = s.host := rfl
@[simp] theorem State.withColor_out (s : State) (x : Vector (BitVec 12) 32) : (s.withColor x).out = s.out := rfl
@[simp] theorem State.withColor_cpuGrant (s : State) (x : Vector (BitVec 12) 32) : (s.withColor x).cpuGrant = s.cpuGrant := rfl

@[simp] theorem State.withSpr_cfg (s : State) (x : Vector Sprite 8) : (s.withSpr x).cfg = s.cfg := rfl
@[simp] theorem State.withSpr_mem (s : State) (x : Vector Sprite 8) : (s.withSpr x).mem = s.mem := rfl
@[simp] theorem State.withSpr_beam (s : State) (x : Vector Sprite 8) : (s.withSpr x).beam = s.beam := rfl
@[simp] theorem State.withSpr_dmacon (s : State) (x : Vector Sprite 8) : (s.withSpr x).dmacon = s.dmacon := rfl
@[simp] theorem State.withSpr_irq (s : State) (x : Vector Sprite 8) : (s.withSpr x).irq = s.irq := rfl
@[simp] theorem State.withSpr_cpuBlock (s : State) (x : Vector Sprite 8) : (s.withSpr x).cpuBlock = s.cpuBlock := rfl
@[simp] theorem State.withSpr_bpl (s : State) (x : Vector Sprite 8) : (s.withSpr x).bpl = s.bpl := rfl
@[simp] theorem State.withSpr_color (s : State) (x : Vector Sprite 8) : (s.withSpr x).color = s.color := rfl
@[simp] theorem State.withSpr_spr (s : State) (x : Vector Sprite 8) : (s.withSpr x).spr = x := rfl
@[simp] theorem State.withSpr_blt (s : State) (x : Vector Sprite 8) : (s.withSpr x).blt = s.blt := rfl
@[simp] theorem State.withSpr_cop (s : State) (x : Vector Sprite 8) : (s.withSpr x).cop = s.cop := rfl
@[simp] theorem State.withSpr_aud (s : State) (x : Vector Sprite 8) : (s.withSpr x).aud = s.aud := rfl
@[simp] theorem State.withSpr_adkcon (s : State) (x : Vector Sprite 8) : (s.withSpr x).adkcon = s.adkcon := rfl
@[simp] theorem State.withSpr_dsk (s : State) (x : Vector Sprite 8) : (s.withSpr x).dsk = s.dsk := rfl
@[simp] theorem State.withSpr_drives (s : State) (x : Vector Sprite 8) : (s.withSpr x).drives = s.drives := rfl
@[simp] theorem State.withSpr_ciaA (s : State) (x : Vector Sprite 8) : (s.withSpr x).ciaA = s.ciaA := rfl
@[simp] theorem State.withSpr_ciaB (s : State) (x : Vector Sprite 8) : (s.withSpr x).ciaB = s.ciaB := rfl
@[simp] theorem State.withSpr_ciaDiv (s : State) (x : Vector Sprite 8) : (s.withSpr x).ciaDiv = s.ciaDiv := rfl
@[simp] theorem State.withSpr_host (s : State) (x : Vector Sprite 8) : (s.withSpr x).host = s.host := rfl
@[simp] theorem State.withSpr_out (s : State) (x : Vector Sprite 8) : (s.withSpr x).out = s.out := rfl
@[simp] theorem State.withSpr_cpuGrant (s : State) (x : Vector Sprite 8) : (s.withSpr x).cpuGrant = s.cpuGrant := rfl

@[simp] theorem State.withBlt_cfg (s : State) (x : Blitter) : (s.withBlt x).cfg = s.cfg := rfl
@[simp] theorem State.withBlt_mem (s : State) (x : Blitter) : (s.withBlt x).mem = s.mem := rfl
@[simp] theorem State.withBlt_beam (s : State) (x : Blitter) : (s.withBlt x).beam = s.beam := rfl
@[simp] theorem State.withBlt_dmacon (s : State) (x : Blitter) : (s.withBlt x).dmacon = s.dmacon := rfl
@[simp] theorem State.withBlt_irq (s : State) (x : Blitter) : (s.withBlt x).irq = s.irq := rfl
@[simp] theorem State.withBlt_cpuBlock (s : State) (x : Blitter) : (s.withBlt x).cpuBlock = s.cpuBlock := rfl
@[simp] theorem State.withBlt_bpl (s : State) (x : Blitter) : (s.withBlt x).bpl = s.bpl := rfl
@[simp] theorem State.withBlt_color (s : State) (x : Blitter) : (s.withBlt x).color = s.color := rfl
@[simp] theorem State.withBlt_spr (s : State) (x : Blitter) : (s.withBlt x).spr = s.spr := rfl
@[simp] theorem State.withBlt_blt (s : State) (x : Blitter) : (s.withBlt x).blt = x := rfl
@[simp] theorem State.withBlt_cop (s : State) (x : Blitter) : (s.withBlt x).cop = s.cop := rfl
@[simp] theorem State.withBlt_aud (s : State) (x : Blitter) : (s.withBlt x).aud = s.aud := rfl
@[simp] theorem State.withBlt_adkcon (s : State) (x : Blitter) : (s.withBlt x).adkcon = s.adkcon := rfl
@[simp] theorem State.withBlt_dsk (s : State) (x : Blitter) : (s.withBlt x).dsk = s.dsk := rfl
@[simp] theorem State.withBlt_drives (s : State) (x : Blitter) : (s.withBlt x).drives = s.drives := rfl
@[simp] theorem State.withBlt_ciaA (s : State) (x : Blitter) : (s.withBlt x).ciaA = s.ciaA := rfl
@[simp] theorem State.withBlt_ciaB (s : State) (x : Blitter) : (s.withBlt x).ciaB = s.ciaB := rfl
@[simp] theorem State.withBlt_ciaDiv (s : State) (x : Blitter) : (s.withBlt x).ciaDiv = s.ciaDiv := rfl
@[simp] theorem State.withBlt_host (s : State) (x : Blitter) : (s.withBlt x).host = s.host := rfl
@[simp] theorem State.withBlt_out (s : State) (x : Blitter) : (s.withBlt x).out = s.out := rfl
@[simp] theorem State.withBlt_cpuGrant (s : State) (x : Blitter) : (s.withBlt x).cpuGrant = s.cpuGrant := rfl

@[simp] theorem State.withCop_cfg (s : State) (x : Copper) : (s.withCop x).cfg = s.cfg := rfl
@[simp] theorem State.withCop_mem (s : State) (x : Copper) : (s.withCop x).mem = s.mem := rfl
@[simp] theorem State.withCop_beam (s : State) (x : Copper) : (s.withCop x).beam = s.beam := rfl
@[simp] theorem State.withCop_dmacon (s : State) (x : Copper) : (s.withCop x).dmacon = s.dmacon := rfl
@[simp] theorem State.withCop_irq (s : State) (x : Copper) : (s.withCop x).irq = s.irq := rfl
@[simp] theorem State.withCop_cpuBlock (s : State) (x : Copper) : (s.withCop x).cpuBlock = s.cpuBlock := rfl
@[simp] theorem State.withCop_bpl (s : State) (x : Copper) : (s.withCop x).bpl = s.bpl := rfl
@[simp] theorem State.withCop_color (s : State) (x : Copper) : (s.withCop x).color = s.color := rfl
@[simp] theorem State.withCop_spr (s : State) (x : Copper) : (s.withCop x).spr = s.spr := rfl
@[simp] theorem State.withCop_blt (s : State) (x : Copper) : (s.withCop x).blt = s.blt := rfl
@[simp] theorem State.withCop_cop (s : State) (x : Copper) : (s.withCop x).cop = x := rfl
@[simp] theorem State.withCop_aud (s : State) (x : Copper) : (s.withCop x).aud = s.aud := rfl
@[simp] theorem State.withCop_adkcon (s : State) (x : Copper) : (s.withCop x).adkcon = s.adkcon := rfl
@[simp] theorem State.withCop_dsk (s : State) (x : Copper) : (s.withCop x).dsk = s.dsk := rfl
@[simp] theorem State.withCop_drives (s : State) (x : Copper) : (s.withCop x).drives = s.drives := rfl
@[simp] theorem State.withCop_ciaA (s : State) (x : Copper) : (s.withCop x).ciaA = s.ciaA := rfl
@[simp] theorem State.withCop_ciaB (s : State) (x : Copper) : (s.withCop x).ciaB = s.ciaB := rfl
@[simp] theorem State.withCop_ciaDiv (s : State) (x : Copper) : (s.withCop x).ciaDiv = s.ciaDiv := rfl
@[simp] theorem State.withCop_host (s : State) (x : Copper) : (s.withCop x).host = s.host := rfl
@[simp] theorem State.withCop_out (s : State) (x : Copper) : (s.withCop x).out = s.out := rfl
@[simp] theorem State.withCop_cpuGrant (s : State) (x : Copper) : (s.withCop x).cpuGrant = s.cpuGrant := rfl

@[simp] theorem State.withAud_cfg (s : State) (x : Vector AudioChan 4) : (s.withAud x).cfg = s.cfg := rfl
@[simp] theorem State.withAud_mem (s : State) (x : Vector AudioChan 4) : (s.withAud x).mem = s.mem := rfl
@[simp] theorem State.withAud_beam (s : State) (x : Vector AudioChan 4) : (s.withAud x).beam = s.beam := rfl
@[simp] theorem State.withAud_dmacon (s : State) (x : Vector AudioChan 4) : (s.withAud x).dmacon = s.dmacon := rfl
@[simp] theorem State.withAud_irq (s : State) (x : Vector AudioChan 4) : (s.withAud x).irq = s.irq := rfl
@[simp] theorem State.withAud_cpuBlock (s : State) (x : Vector AudioChan 4) : (s.withAud x).cpuBlock = s.cpuBlock := rfl
@[simp] theorem State.withAud_bpl (s : State) (x : Vector AudioChan 4) : (s.withAud x).bpl = s.bpl := rfl
@[simp] theorem State.withAud_color (s : State) (x : Vector AudioChan 4) : (s.withAud x).color = s.color := rfl
@[simp] theorem State.withAud_spr (s : State) (x : Vector AudioChan 4) : (s.withAud x).spr = s.spr := rfl
@[simp] theorem State.withAud_blt (s : State) (x : Vector AudioChan 4) : (s.withAud x).blt = s.blt := rfl
@[simp] theorem State.withAud_cop (s : State) (x : Vector AudioChan 4) : (s.withAud x).cop = s.cop := rfl
@[simp] theorem State.withAud_aud (s : State) (x : Vector AudioChan 4) : (s.withAud x).aud = x := rfl
@[simp] theorem State.withAud_adkcon (s : State) (x : Vector AudioChan 4) : (s.withAud x).adkcon = s.adkcon := rfl
@[simp] theorem State.withAud_dsk (s : State) (x : Vector AudioChan 4) : (s.withAud x).dsk = s.dsk := rfl
@[simp] theorem State.withAud_drives (s : State) (x : Vector AudioChan 4) : (s.withAud x).drives = s.drives := rfl
@[simp] theorem State.withAud_ciaA (s : State) (x : Vector AudioChan 4) : (s.withAud x).ciaA = s.ciaA := rfl
@[simp] theorem State.withAud_ciaB (s : State) (x : Vector AudioChan 4) : (s.withAud x).ciaB = s.ciaB := rfl
@[simp] theorem State.withAud_ciaDiv (s : State) (x : Vector AudioChan 4) : (s.withAud x).ciaDiv = s.ciaDiv := rfl
@[simp] theorem State.withAud_host (s : State) (x : Vector AudioChan 4) : (s.withAud x).host = s.host := rfl
@[simp] theorem State.withAud_out (s : State) (x : Vector AudioChan 4) : (s.withAud x).out = s.out := rfl
@[simp] theorem State.withAud_cpuGrant (s : State) (x : Vector AudioChan 4) : (s.withAud x).cpuGrant = s.cpuGrant := rfl

@[simp] theorem State.withAdkcon_cfg (s : State) (x : BitVec 15) : (s.withAdkcon x).cfg = s.cfg := rfl
@[simp] theorem State.withAdkcon_mem (s : State) (x : BitVec 15) : (s.withAdkcon x).mem = s.mem := rfl
@[simp] theorem State.withAdkcon_beam (s : State) (x : BitVec 15) : (s.withAdkcon x).beam = s.beam := rfl
@[simp] theorem State.withAdkcon_dmacon (s : State) (x : BitVec 15) : (s.withAdkcon x).dmacon = s.dmacon := rfl
@[simp] theorem State.withAdkcon_irq (s : State) (x : BitVec 15) : (s.withAdkcon x).irq = s.irq := rfl
@[simp] theorem State.withAdkcon_cpuBlock (s : State) (x : BitVec 15) : (s.withAdkcon x).cpuBlock = s.cpuBlock := rfl
@[simp] theorem State.withAdkcon_bpl (s : State) (x : BitVec 15) : (s.withAdkcon x).bpl = s.bpl := rfl
@[simp] theorem State.withAdkcon_color (s : State) (x : BitVec 15) : (s.withAdkcon x).color = s.color := rfl
@[simp] theorem State.withAdkcon_spr (s : State) (x : BitVec 15) : (s.withAdkcon x).spr = s.spr := rfl
@[simp] theorem State.withAdkcon_blt (s : State) (x : BitVec 15) : (s.withAdkcon x).blt = s.blt := rfl
@[simp] theorem State.withAdkcon_cop (s : State) (x : BitVec 15) : (s.withAdkcon x).cop = s.cop := rfl
@[simp] theorem State.withAdkcon_aud (s : State) (x : BitVec 15) : (s.withAdkcon x).aud = s.aud := rfl
@[simp] theorem State.withAdkcon_adkcon (s : State) (x : BitVec 15) : (s.withAdkcon x).adkcon = x := rfl
@[simp] theorem State.withAdkcon_dsk (s : State) (x : BitVec 15) : (s.withAdkcon x).dsk = s.dsk := rfl
@[simp] theorem State.withAdkcon_drives (s : State) (x : BitVec 15) : (s.withAdkcon x).drives = s.drives := rfl
@[simp] theorem State.withAdkcon_ciaA (s : State) (x : BitVec 15) : (s.withAdkcon x).ciaA = s.ciaA := rfl
@[simp] theorem State.withAdkcon_ciaB (s : State) (x : BitVec 15) : (s.withAdkcon x).ciaB = s.ciaB := rfl
@[simp] theorem State.withAdkcon_ciaDiv (s : State) (x : BitVec 15) : (s.withAdkcon x).ciaDiv = s.ciaDiv := rfl
@[simp] theorem State.withAdkcon_host (s : State) (x : BitVec 15) : (s.withAdkcon x).host = s.host := rfl
@[simp] theorem State.withAdkcon_out (s : State) (x : BitVec 15) : (s.withAdkcon x).out = s.out := rfl
@[simp] theorem State.withAdkcon_cpuGrant (s : State) (x : BitVec 15) : (s.withAdkcon x).cpuGrant = s.cpuGrant := rfl

@[simp] theorem State.withDsk_cfg (s : State) (x : Disk) : (s.withDsk x).cfg = s.cfg := rfl
@[simp] theorem State.withDsk_mem (s : State) (x : Disk) : (s.withDsk x).mem = s.mem := rfl
@[simp] theorem State.withDsk_beam (s : State) (x : Disk) : (s.withDsk x).beam = s.beam := rfl
@[simp] theorem State.withDsk_dmacon (s : State) (x : Disk) : (s.withDsk x).dmacon = s.dmacon := rfl
@[simp] theorem State.withDsk_irq (s : State) (x : Disk) : (s.withDsk x).irq = s.irq := rfl
@[simp] theorem State.withDsk_cpuBlock (s : State) (x : Disk) : (s.withDsk x).cpuBlock = s.cpuBlock := rfl
@[simp] theorem State.withDsk_bpl (s : State) (x : Disk) : (s.withDsk x).bpl = s.bpl := rfl
@[simp] theorem State.withDsk_color (s : State) (x : Disk) : (s.withDsk x).color = s.color := rfl
@[simp] theorem State.withDsk_spr (s : State) (x : Disk) : (s.withDsk x).spr = s.spr := rfl
@[simp] theorem State.withDsk_blt (s : State) (x : Disk) : (s.withDsk x).blt = s.blt := rfl
@[simp] theorem State.withDsk_cop (s : State) (x : Disk) : (s.withDsk x).cop = s.cop := rfl
@[simp] theorem State.withDsk_aud (s : State) (x : Disk) : (s.withDsk x).aud = s.aud := rfl
@[simp] theorem State.withDsk_adkcon (s : State) (x : Disk) : (s.withDsk x).adkcon = s.adkcon := rfl
@[simp] theorem State.withDsk_dsk (s : State) (x : Disk) : (s.withDsk x).dsk = x := rfl
@[simp] theorem State.withDsk_drives (s : State) (x : Disk) : (s.withDsk x).drives = s.drives := rfl
@[simp] theorem State.withDsk_ciaA (s : State) (x : Disk) : (s.withDsk x).ciaA = s.ciaA := rfl
@[simp] theorem State.withDsk_ciaB (s : State) (x : Disk) : (s.withDsk x).ciaB = s.ciaB := rfl
@[simp] theorem State.withDsk_ciaDiv (s : State) (x : Disk) : (s.withDsk x).ciaDiv = s.ciaDiv := rfl
@[simp] theorem State.withDsk_host (s : State) (x : Disk) : (s.withDsk x).host = s.host := rfl
@[simp] theorem State.withDsk_out (s : State) (x : Disk) : (s.withDsk x).out = s.out := rfl
@[simp] theorem State.withDsk_cpuGrant (s : State) (x : Disk) : (s.withDsk x).cpuGrant = s.cpuGrant := rfl

@[simp] theorem State.withDrives_cfg (s : State) (x : Vector Drive 4) : (s.withDrives x).cfg = s.cfg := rfl
@[simp] theorem State.withDrives_mem (s : State) (x : Vector Drive 4) : (s.withDrives x).mem = s.mem := rfl
@[simp] theorem State.withDrives_beam (s : State) (x : Vector Drive 4) : (s.withDrives x).beam = s.beam := rfl
@[simp] theorem State.withDrives_dmacon (s : State) (x : Vector Drive 4) : (s.withDrives x).dmacon = s.dmacon := rfl
@[simp] theorem State.withDrives_irq (s : State) (x : Vector Drive 4) : (s.withDrives x).irq = s.irq := rfl
@[simp] theorem State.withDrives_cpuBlock (s : State) (x : Vector Drive 4) : (s.withDrives x).cpuBlock = s.cpuBlock := rfl
@[simp] theorem State.withDrives_bpl (s : State) (x : Vector Drive 4) : (s.withDrives x).bpl = s.bpl := rfl
@[simp] theorem State.withDrives_color (s : State) (x : Vector Drive 4) : (s.withDrives x).color = s.color := rfl
@[simp] theorem State.withDrives_spr (s : State) (x : Vector Drive 4) : (s.withDrives x).spr = s.spr := rfl
@[simp] theorem State.withDrives_blt (s : State) (x : Vector Drive 4) : (s.withDrives x).blt = s.blt := rfl
@[simp] theorem State.withDrives_cop (s : State) (x : Vector Drive 4) : (s.withDrives x).cop = s.cop := rfl
@[simp] theorem State.withDrives_aud (s : State) (x : Vector Drive 4) : (s.withDrives x).aud = s.aud := rfl
@[simp] theorem State.withDrives_adkcon (s : State) (x : Vector Drive 4) : (s.withDrives x).adkcon = s.adkcon := rfl
@[simp] theorem State.withDrives_dsk (s : State) (x : Vector Drive 4) : (s.withDrives x).dsk = s.dsk := rfl
@[simp] theorem State.withDrives_drives (s : State) (x : Vector Drive 4) : (s.withDrives x).drives = x := rfl
@[simp] theorem State.withDrives_ciaA (s : State) (x : Vector Drive 4) : (s.withDrives x).ciaA = s.ciaA := rfl
@[simp] theorem State.withDrives_ciaB (s : State) (x : Vector Drive 4) : (s.withDrives x).ciaB = s.ciaB := rfl
@[simp] theorem State.withDrives_ciaDiv (s : State) (x : Vector Drive 4) : (s.withDrives x).ciaDiv = s.ciaDiv := rfl
@[simp] theorem State.withDrives_host (s : State) (x : Vector Drive 4) : (s.withDrives x).host = s.host := rfl
@[simp] theorem State.withDrives_out (s : State) (x : Vector Drive 4) : (s.withDrives x).out = s.out := rfl
@[simp] theorem State.withDrives_cpuGrant (s : State) (x : Vector Drive 4) : (s.withDrives x).cpuGrant = s.cpuGrant := rfl

@[simp] theorem State.withCiaA_cfg (s : State) (x : Cia) : (s.withCiaA x).cfg = s.cfg := rfl
@[simp] theorem State.withCiaA_mem (s : State) (x : Cia) : (s.withCiaA x).mem = s.mem := rfl
@[simp] theorem State.withCiaA_beam (s : State) (x : Cia) : (s.withCiaA x).beam = s.beam := rfl
@[simp] theorem State.withCiaA_dmacon (s : State) (x : Cia) : (s.withCiaA x).dmacon = s.dmacon := rfl
@[simp] theorem State.withCiaA_irq (s : State) (x : Cia) : (s.withCiaA x).irq = s.irq := rfl
@[simp] theorem State.withCiaA_cpuBlock (s : State) (x : Cia) : (s.withCiaA x).cpuBlock = s.cpuBlock := rfl
@[simp] theorem State.withCiaA_bpl (s : State) (x : Cia) : (s.withCiaA x).bpl = s.bpl := rfl
@[simp] theorem State.withCiaA_color (s : State) (x : Cia) : (s.withCiaA x).color = s.color := rfl
@[simp] theorem State.withCiaA_spr (s : State) (x : Cia) : (s.withCiaA x).spr = s.spr := rfl
@[simp] theorem State.withCiaA_blt (s : State) (x : Cia) : (s.withCiaA x).blt = s.blt := rfl
@[simp] theorem State.withCiaA_cop (s : State) (x : Cia) : (s.withCiaA x).cop = s.cop := rfl
@[simp] theorem State.withCiaA_aud (s : State) (x : Cia) : (s.withCiaA x).aud = s.aud := rfl
@[simp] theorem State.withCiaA_adkcon (s : State) (x : Cia) : (s.withCiaA x).adkcon = s.adkcon := rfl
@[simp] theorem State.withCiaA_dsk (s : State) (x : Cia) : (s.withCiaA x).dsk = s.dsk := rfl
@[simp] theorem State.withCiaA_drives (s : State) (x : Cia) : (s.withCiaA x).drives = s.drives := rfl
@[simp] theorem State.withCiaA_ciaA (s : State) (x : Cia) : (s.withCiaA x).ciaA = x := rfl
@[simp] theorem State.withCiaA_ciaB (s : State) (x : Cia) : (s.withCiaA x).ciaB = s.ciaB := rfl
@[simp] theorem State.withCiaA_ciaDiv (s : State) (x : Cia) : (s.withCiaA x).ciaDiv = s.ciaDiv := rfl
@[simp] theorem State.withCiaA_host (s : State) (x : Cia) : (s.withCiaA x).host = s.host := rfl
@[simp] theorem State.withCiaA_out (s : State) (x : Cia) : (s.withCiaA x).out = s.out := rfl
@[simp] theorem State.withCiaA_cpuGrant (s : State) (x : Cia) : (s.withCiaA x).cpuGrant = s.cpuGrant := rfl

@[simp] theorem State.withCiaB_cfg (s : State) (x : Cia) : (s.withCiaB x).cfg = s.cfg := rfl
@[simp] theorem State.withCiaB_mem (s : State) (x : Cia) : (s.withCiaB x).mem = s.mem := rfl
@[simp] theorem State.withCiaB_beam (s : State) (x : Cia) : (s.withCiaB x).beam = s.beam := rfl
@[simp] theorem State.withCiaB_dmacon (s : State) (x : Cia) : (s.withCiaB x).dmacon = s.dmacon := rfl
@[simp] theorem State.withCiaB_irq (s : State) (x : Cia) : (s.withCiaB x).irq = s.irq := rfl
@[simp] theorem State.withCiaB_cpuBlock (s : State) (x : Cia) : (s.withCiaB x).cpuBlock = s.cpuBlock := rfl
@[simp] theorem State.withCiaB_bpl (s : State) (x : Cia) : (s.withCiaB x).bpl = s.bpl := rfl
@[simp] theorem State.withCiaB_color (s : State) (x : Cia) : (s.withCiaB x).color = s.color := rfl
@[simp] theorem State.withCiaB_spr (s : State) (x : Cia) : (s.withCiaB x).spr = s.spr := rfl
@[simp] theorem State.withCiaB_blt (s : State) (x : Cia) : (s.withCiaB x).blt = s.blt := rfl
@[simp] theorem State.withCiaB_cop (s : State) (x : Cia) : (s.withCiaB x).cop = s.cop := rfl
@[simp] theorem State.withCiaB_aud (s : State) (x : Cia) : (s.withCiaB x).aud = s.aud := rfl
@[simp] theorem State.withCiaB_adkcon (s : State) (x : Cia) : (s.withCiaB x).adkcon = s.adkcon := rfl
@[simp] theorem State.withCiaB_dsk (s : State) (x : Cia) : (s.withCiaB x).dsk = s.dsk := rfl
@[simp] theorem State.withCiaB_drives (s : State) (x : Cia) : (s.withCiaB x).drives = s.drives := rfl
@[simp] theorem State.withCiaB_ciaA (s : State) (x : Cia) : (s.withCiaB x).ciaA = s.ciaA := rfl
@[simp] theorem State.withCiaB_ciaB (s : State) (x : Cia) : (s.withCiaB x).ciaB = x := rfl
@[simp] theorem State.withCiaB_ciaDiv (s : State) (x : Cia) : (s.withCiaB x).ciaDiv = s.ciaDiv := rfl
@[simp] theorem State.withCiaB_host (s : State) (x : Cia) : (s.withCiaB x).host = s.host := rfl
@[simp] theorem State.withCiaB_out (s : State) (x : Cia) : (s.withCiaB x).out = s.out := rfl
@[simp] theorem State.withCiaB_cpuGrant (s : State) (x : Cia) : (s.withCiaB x).cpuGrant = s.cpuGrant := rfl

@[simp] theorem State.withCiaDiv_cfg (s : State) (x : BitVec 4) : (s.withCiaDiv x).cfg = s.cfg := rfl
@[simp] theorem State.withCiaDiv_mem (s : State) (x : BitVec 4) : (s.withCiaDiv x).mem = s.mem := rfl
@[simp] theorem State.withCiaDiv_beam (s : State) (x : BitVec 4) : (s.withCiaDiv x).beam = s.beam := rfl
@[simp] theorem State.withCiaDiv_dmacon (s : State) (x : BitVec 4) : (s.withCiaDiv x).dmacon = s.dmacon := rfl
@[simp] theorem State.withCiaDiv_irq (s : State) (x : BitVec 4) : (s.withCiaDiv x).irq = s.irq := rfl
@[simp] theorem State.withCiaDiv_cpuBlock (s : State) (x : BitVec 4) : (s.withCiaDiv x).cpuBlock = s.cpuBlock := rfl
@[simp] theorem State.withCiaDiv_bpl (s : State) (x : BitVec 4) : (s.withCiaDiv x).bpl = s.bpl := rfl
@[simp] theorem State.withCiaDiv_color (s : State) (x : BitVec 4) : (s.withCiaDiv x).color = s.color := rfl
@[simp] theorem State.withCiaDiv_spr (s : State) (x : BitVec 4) : (s.withCiaDiv x).spr = s.spr := rfl
@[simp] theorem State.withCiaDiv_blt (s : State) (x : BitVec 4) : (s.withCiaDiv x).blt = s.blt := rfl
@[simp] theorem State.withCiaDiv_cop (s : State) (x : BitVec 4) : (s.withCiaDiv x).cop = s.cop := rfl
@[simp] theorem State.withCiaDiv_aud (s : State) (x : BitVec 4) : (s.withCiaDiv x).aud = s.aud := rfl
@[simp] theorem State.withCiaDiv_adkcon (s : State) (x : BitVec 4) : (s.withCiaDiv x).adkcon = s.adkcon := rfl
@[simp] theorem State.withCiaDiv_dsk (s : State) (x : BitVec 4) : (s.withCiaDiv x).dsk = s.dsk := rfl
@[simp] theorem State.withCiaDiv_drives (s : State) (x : BitVec 4) : (s.withCiaDiv x).drives = s.drives := rfl
@[simp] theorem State.withCiaDiv_ciaA (s : State) (x : BitVec 4) : (s.withCiaDiv x).ciaA = s.ciaA := rfl
@[simp] theorem State.withCiaDiv_ciaB (s : State) (x : BitVec 4) : (s.withCiaDiv x).ciaB = s.ciaB := rfl
@[simp] theorem State.withCiaDiv_ciaDiv (s : State) (x : BitVec 4) : (s.withCiaDiv x).ciaDiv = x := rfl
@[simp] theorem State.withCiaDiv_host (s : State) (x : BitVec 4) : (s.withCiaDiv x).host = s.host := rfl
@[simp] theorem State.withCiaDiv_out (s : State) (x : BitVec 4) : (s.withCiaDiv x).out = s.out := rfl
@[simp] theorem State.withCiaDiv_cpuGrant (s : State) (x : BitVec 4) : (s.withCiaDiv x).cpuGrant = s.cpuGrant := rfl

@[simp] theorem State.withHost_cfg (s : State) (x : List HostOp) : (s.withHost x).cfg = s.cfg := rfl
@[simp] theorem State.withHost_mem (s : State) (x : List HostOp) : (s.withHost x).mem = s.mem := rfl
@[simp] theorem State.withHost_beam (s : State) (x : List HostOp) : (s.withHost x).beam = s.beam := rfl
@[simp] theorem State.withHost_dmacon (s : State) (x : List HostOp) : (s.withHost x).dmacon = s.dmacon := rfl
@[simp] theorem State.withHost_irq (s : State) (x : List HostOp) : (s.withHost x).irq = s.irq := rfl
@[simp] theorem State.withHost_cpuBlock (s : State) (x : List HostOp) : (s.withHost x).cpuBlock = s.cpuBlock := rfl
@[simp] theorem State.withHost_bpl (s : State) (x : List HostOp) : (s.withHost x).bpl = s.bpl := rfl
@[simp] theorem State.withHost_color (s : State) (x : List HostOp) : (s.withHost x).color = s.color := rfl
@[simp] theorem State.withHost_spr (s : State) (x : List HostOp) : (s.withHost x).spr = s.spr := rfl
@[simp] theorem State.withHost_blt (s : State) (x : List HostOp) : (s.withHost x).blt = s.blt := rfl
@[simp] theorem State.withHost_cop (s : State) (x : List HostOp) : (s.withHost x).cop = s.cop := rfl
@[simp] theorem State.withHost_aud (s : State) (x : List HostOp) : (s.withHost x).aud = s.aud := rfl
@[simp] theorem State.withHost_adkcon (s : State) (x : List HostOp) : (s.withHost x).adkcon = s.adkcon := rfl
@[simp] theorem State.withHost_dsk (s : State) (x : List HostOp) : (s.withHost x).dsk = s.dsk := rfl
@[simp] theorem State.withHost_drives (s : State) (x : List HostOp) : (s.withHost x).drives = s.drives := rfl
@[simp] theorem State.withHost_ciaA (s : State) (x : List HostOp) : (s.withHost x).ciaA = s.ciaA := rfl
@[simp] theorem State.withHost_ciaB (s : State) (x : List HostOp) : (s.withHost x).ciaB = s.ciaB := rfl
@[simp] theorem State.withHost_ciaDiv (s : State) (x : List HostOp) : (s.withHost x).ciaDiv = s.ciaDiv := rfl
@[simp] theorem State.withHost_host (s : State) (x : List HostOp) : (s.withHost x).host = x := rfl
@[simp] theorem State.withHost_out (s : State) (x : List HostOp) : (s.withHost x).out = s.out := rfl
@[simp] theorem State.withHost_cpuGrant (s : State) (x : List HostOp) : (s.withHost x).cpuGrant = s.cpuGrant := rfl

@[simp] theorem State.withOut_cfg (s : State) (x : StepOut) : (s.withOut x).cfg = s.cfg := rfl
@[simp] theorem State.withOut_mem (s : State) (x : StepOut) : (s.withOut x).mem = s.mem := rfl
@[simp] theorem State.withOut_beam (s : State) (x : StepOut) : (s.withOut x).beam = s.beam := rfl
@[simp] theorem State.withOut_dmacon (s : State) (x : StepOut) : (s.withOut x).dmacon = s.dmacon := rfl
@[simp] theorem State.withOut_irq (s : State) (x : StepOut) : (s.withOut x).irq = s.irq := rfl
@[simp] theorem State.withOut_cpuBlock (s : State) (x : StepOut) : (s.withOut x).cpuBlock = s.cpuBlock := rfl
@[simp] theorem State.withOut_bpl (s : State) (x : StepOut) : (s.withOut x).bpl = s.bpl := rfl
@[simp] theorem State.withOut_color (s : State) (x : StepOut) : (s.withOut x).color = s.color := rfl
@[simp] theorem State.withOut_spr (s : State) (x : StepOut) : (s.withOut x).spr = s.spr := rfl
@[simp] theorem State.withOut_blt (s : State) (x : StepOut) : (s.withOut x).blt = s.blt := rfl
@[simp] theorem State.withOut_cop (s : State) (x : StepOut) : (s.withOut x).cop = s.cop := rfl
@[simp] theorem State.withOut_aud (s : State) (x : StepOut) : (s.withOut x).aud = s.aud := rfl
@[simp] theorem State.withOut_adkcon (s : State) (x : StepOut) : (s.withOut x).adkcon = s.adkcon := rfl
@[simp] theorem State.withOut_dsk (s : State) (x : StepOut) : (s.withOut x).dsk = s.dsk := rfl
@[simp] theorem State.withOut_drives (s : State) (x : StepOut) : (s.withOut x).drives = s.drives := rfl
@[simp] theorem State.withOut_ciaA (s : State) (x : StepOut) : (s.withOut x).ciaA = s.ciaA := rfl
@[simp] theorem State.withOut_ciaB (s : State) (x : StepOut) : (s.withOut x).ciaB = s.ciaB := rfl
@[simp] theorem State.withOut_ciaDiv (s : State) (x : StepOut) : (s.withOut x).ciaDiv = s.ciaDiv := rfl
@[simp] theorem State.withOut_host (s : State) (x : StepOut) : (s.withOut x).host = s.host := rfl
@[simp] theorem State.withOut_out (s : State) (x : StepOut) : (s.withOut x).out = x := rfl
@[simp] theorem State.withOut_cpuGrant (s : State) (x : StepOut) : (s.withOut x).cpuGrant = s.cpuGrant := rfl

@[simp] theorem State.withCpuGrant_cfg (s : State) (x : Bool) : (s.withCpuGrant x).cfg = s.cfg := rfl
@[simp] theorem State.withCpuGrant_mem (s : State) (x : Bool) : (s.withCpuGrant x).mem = s.mem := rfl
@[simp] theorem State.withCpuGrant_beam (s : State) (x : Bool) : (s.withCpuGrant x).beam = s.beam := rfl
@[simp] theorem State.withCpuGrant_dmacon (s : State) (x : Bool) : (s.withCpuGrant x).dmacon = s.dmacon := rfl
@[simp] theorem State.withCpuGrant_irq (s : State) (x : Bool) : (s.withCpuGrant x).irq = s.irq := rfl
@[simp] theorem State.withCpuGrant_cpuBlock (s : State) (x : Bool) : (s.withCpuGrant x).cpuBlock = s.cpuBlock := rfl
@[simp] theorem State.withCpuGrant_bpl (s : State) (x : Bool) : (s.withCpuGrant x).bpl = s.bpl := rfl
@[simp] theorem State.withCpuGrant_color (s : State) (x : Bool) : (s.withCpuGrant x).color = s.color := rfl
@[simp] theorem State.withCpuGrant_spr (s : State) (x : Bool) : (s.withCpuGrant x).spr = s.spr := rfl
@[simp] theorem State.withCpuGrant_blt (s : State) (x : Bool) : (s.withCpuGrant x).blt = s.blt := rfl
@[simp] theorem State.withCpuGrant_cop (s : State) (x : Bool) : (s.withCpuGrant x).cop = s.cop := rfl
@[simp] theorem State.withCpuGrant_aud (s : State) (x : Bool) : (s.withCpuGrant x).aud = s.aud := rfl
@[simp] theorem State.withCpuGrant_adkcon (s : State) (x : Bool) : (s.withCpuGrant x).adkcon = s.adkcon := rfl
@[simp] theorem State.withCpuGrant_dsk (s : State) (x : Bool) : (s.withCpuGrant x).dsk = s.dsk := rfl
@[simp] theorem State.withCpuGrant_drives (s : State) (x : Bool) : (s.withCpuGrant x).drives = s.drives := rfl
@[simp] theorem State.withCpuGrant_ciaA (s : State) (x : Bool) : (s.withCpuGrant x).ciaA = s.ciaA := rfl
@[simp] theorem State.withCpuGrant_ciaB (s : State) (x : Bool) : (s.withCpuGrant x).ciaB = s.ciaB := rfl
@[simp] theorem State.withCpuGrant_ciaDiv (s : State) (x : Bool) : (s.withCpuGrant x).ciaDiv = s.ciaDiv := rfl
@[simp] theorem State.withCpuGrant_host (s : State) (x : Bool) : (s.withCpuGrant x).host = s.host := rfl
@[simp] theorem State.withCpuGrant_out (s : State) (x : Bool) : (s.withCpuGrant x).out = s.out := rfl
@[simp] theorem State.withCpuGrant_cpuGrant (s : State) (x : Bool) : (s.withCpuGrant x).cpuGrant = x := rfl

/-! A block replaced by itself. -/

@[simp] theorem State.withMem_self (s : State) : s.withMem s.mem = s := rfl
@[simp] theorem State.withBeam_self (s : State) : s.withBeam s.beam = s := rfl
@[simp] theorem State.withDmacon_self (s : State) : s.withDmacon s.dmacon = s := rfl
@[simp] theorem State.withIrq_self (s : State) : s.withIrq s.irq = s := rfl
@[simp] theorem State.withCpuBlock_self (s : State) : s.withCpuBlock s.cpuBlock = s := rfl
@[simp] theorem State.withBpl_self (s : State) : s.withBpl s.bpl = s := rfl
@[simp] theorem State.withColor_self (s : State) : s.withColor s.color = s := rfl
@[simp] theorem State.withSpr_self (s : State) : s.withSpr s.spr = s := rfl
@[simp] theorem State.withBlt_self (s : State) : s.withBlt s.blt = s := rfl
@[simp] theorem State.withCop_self (s : State) : s.withCop s.cop = s := rfl
@[simp] theorem State.withAud_self (s : State) : s.withAud s.aud = s := rfl
@[simp] theorem State.withAdkcon_self (s : State) : s.withAdkcon s.adkcon = s := rfl
@[simp] theorem State.withDsk_self (s : State) : s.withDsk s.dsk = s := rfl
@[simp] theorem State.withDrives_self (s : State) : s.withDrives s.drives = s := rfl
@[simp] theorem State.withCiaA_self (s : State) : s.withCiaA s.ciaA = s := rfl
@[simp] theorem State.withCiaB_self (s : State) : s.withCiaB s.ciaB = s := rfl
@[simp] theorem State.withCiaDiv_self (s : State) : s.withCiaDiv s.ciaDiv = s := rfl
@[simp] theorem State.withHost_self (s : State) : s.withHost s.host = s := rfl
@[simp] theorem State.withOut_self (s : State) : s.withOut s.out = s := rfl
@[simp] theorem State.withCpuGrant_self (s : State) : s.withCpuGrant s.cpuGrant = s := rfl

/-! States are equal block by block. -/

@[ext] theorem State.ext {s t : State}
    (h_cfg : s.cfg = t.cfg)
    (h_mem : s.mem = t.mem)
    (h_beam : s.beam = t.beam)
    (h_dmacon : s.dmacon = t.dmacon)
    (h_irq : s.irq = t.irq)
    (h_cpuBlock : s.cpuBlock = t.cpuBlock)
    (h_bpl : s.bpl = t.bpl)
    (h_color : s.color = t.color)
    (h_spr : s.spr = t.spr)
    (h_blt : s.blt = t.blt)
    (h_cop : s.cop = t.cop)
    (h_aud : s.aud = t.aud)
    (h_adkcon : s.adkcon = t.adkcon)
    (h_dsk : s.dsk = t.dsk)
    (h_drives : s.drives = t.drives)
    (h_ciaA : s.ciaA = t.ciaA)
    (h_ciaB : s.ciaB = t.ciaB)
    (h_ciaDiv : s.ciaDiv = t.ciaDiv)
    (h_host : s.host = t.host)
    (h_out : s.out = t.out)
    (h_cpuGrant : s.cpuGrant = t.cpuGrant) : s = t := by
  cases s
  cases t
  simp only [State.mk.injEq]
  exact ⟨h_cfg, h_mem, h_beam, h_dmacon, h_irq, h_cpuBlock, h_bpl, h_color, h_spr, h_blt, h_cop, h_aud, h_adkcon, h_dsk, h_drives, h_ciaA, h_ciaB, h_ciaDiv, h_host, h_out, h_cpuGrant⟩

end Sys2Proof.Machine
end

