-- ==== Sys2Proof/Laws/Outcome.lean ====
section
/-! SUPPORT. The shared operations, each described once: when it answers a next state, and which. -/

namespace Sys2Proof.Machine

/-! ### Sequencing -/

@[simp] theorem andThen_next (s : State) (f : State → Result) : andThen (.next s) f = f s := rfl
@[simp] theorem andThen_fault (e : Fault) (f : State → Result) : andThen (.fault e) f = .fault e := rfl
@[simp] theorem andThen_refused (e : Refusal) (f : State → Result) : andThen (.refused e) f = .refused e := rfl

/-- A sequence answers next exactly when its first part does and the rest does from there. -/
theorem andThen_eq_next_iff (r : Result) (f : State → Result) (t : State) :
    andThen r f = .next t ↔ ∃ s, r = .next s ∧ f s = .next t := by
  cases r <;> simp [andThen]

/-- A property of the states in between carries a property to the end. -/
theorem andThen_keeps {P Q : State → Prop} {r : Result} {f : State → Result} (hr : ∀ s, r = .next s → P s)
    (hf : ∀ s t, P s → f s = .next t → Q t) : ∀ t, andThen r f = .next t → Q t := by
  intro t h
  obtain ⟨s, hs, hst⟩ := (andThen_eq_next_iff r f t).1 h
  exact hf s t (hr s hs) hst

/-! ### Memory and pointers -/

/-- A DMA read inside installed memory goes on with the word at the masked address (R63). -/
theorem withMemRead_of_inRange {s : State} {p : Long} (h : dmaInRange s p) (k : Word → Result) :
    withMemRead s p k = k (Mem.readWord s.mem (dmaAddr s p)) := by
  simp [withMemRead, h]

/-- What a DMA read that went on read. -/
theorem withMemRead_eq_next {s : State} {p : Long} {k : Word → Result} {t : State} (h : withMemRead s p k = .next t) :
    dmaInRange s p ∧ k (Mem.readWord s.mem (dmaAddr s p)) = .next t := by
  unfold withMemRead at h
  split at h
  · rename_i hr
    exact ⟨hr, h⟩
  · cases h

/-- A DMA write inside installed memory (R63). -/
theorem memWrite_of_inRange {s : State} {p : Long} (h : dmaInRange s p) (v : Word) :
    memWrite s p v = .next (s.withMem (Mem.writeWord s.mem (dmaAddr s p) v)) := by
  simp [memWrite, h]

/-- What a DMA write that went on wrote. -/
theorem memWrite_eq_next {s t : State} {p : Long} {v : Word} (h : memWrite s p v = .next t) :
    dmaInRange s p ∧ t = s.withMem (Mem.writeWord s.mem (dmaAddr s p) v) := by
  unfold memWrite at h
  split at h
  · rename_i hr
    exact ⟨hr, by cases h; rfl⟩
  · cases h

/-- The sum of a pointer and a step is the sum modulo 2^32. -/
theorem ptrSum_eq {p : Long} {k : Int} (h : ptrFits p k) :
    BitVec.ofNat 32 ((p.toNat : Int) + k).toNat = p + BitVec.ofInt 32 k := by
  apply BitVec.eq_of_toInt_eq
  have hn : (((p.toNat : Int) + k).toNat : Int) = (p.toNat : Int) + k := Int.toNat_of_nonneg h.1
  rw [BitVec.toInt_ofNat', BitVec.toInt_add, BitVec.toInt_ofInt, hn, BitVec.toInt_eq_toNat_bmod, Int.bmod_add_bmod]
  simp [Int.add_bmod]

/-- A pointer sum inside the container goes on with the sum (R80). -/
theorem withPtrAdd_of_fits {p : Long} {k : Int} (h : ptrFits p k) (c : Long → Result) :
    withPtrAdd p k c = c (p + BitVec.ofInt 32 k) := by
  have hif : (0 ≤ (p.toNat : Int) + k ∧ (p.toNat : Int) + k < 4294967296) := h
  rw [withPtrAdd, if_pos hif, ptrSum_eq h]

/-- What a pointer sum that went on was. -/
theorem withPtrAdd_eq_next {p : Long} {k : Int} {c : Long → Result} {t : State} (h : withPtrAdd p k c = .next t) :
    ptrFits p k ∧ c (p + BitVec.ofInt 32 k) = .next t := by
  by_cases hf : ptrFits p k
  · exact ⟨hf, by rw [← withPtrAdd_of_fits hf c]; exact h⟩
  · have hn : ¬ (0 ≤ (p.toNat : Int) + k ∧ (p.toNat : Int) + k < 4294967296) := hf
    rw [withPtrAdd, if_neg hn] at h
    cases h

end Sys2Proof.Machine
end

