-- ==== Sys2Proof/Laws/Frames.lean ====
section
/-! SUPPORT. What each operation touches, one lemma per operation: its result is its argument with the named blocks of the
state replaced, so every other block is as before (by the lemmas of Laws/State.lean). -/

namespace Sys2Proof.Machine

/-! ### Operations that always answer a state -/

theorem grant_touches (o : BusOwner) (a : Long) (v : Word) (s : State) :
    grant o a v s = s.withOut (grant o a v s).out := rfl

theorem raiseIrq_touches (b : Fin 14) (d : Byte) (s : State) : raiseIrq b d s = s.withIrq (raiseIrq b d s).irq := rfl

theorem ddfTrack_touches (s : State) : ddfTrack s = s.withBpl (ddfTrack s).bpl := by
  unfold ddfTrack
  dsimp only
  split
  · split
    · split
      · rfl
      · split <;> rfl
    · rfl
  · split <;> rfl

theorem audioPeriodTicks_touches (s : State) : audioPeriodTicks s = s.withAud (audioPeriodTicks s).aud := rfl

theorem audioStopDisabled_touches (s : State) : audioStopDisabled s = s.withAud (audioStopDisabled s).aud := rfl

theorem blitterStartTick_touches (s : State) : blitterStartTick s = s.withBlt (blitterStartTick s).blt := by
  unfold blitterStartTick
  split
  · split <;> rfl
  · rfl

theorem enterFinal_touches (s : State) :
    enterFinal s = (s.withBlt (enterFinal s).blt).withIrq (enterFinal s).irq := rfl

theorem rowAdvance_touches (m : BltMode) (s : State) :
    rowAdvance m s = (s.withBlt (rowAdvance m s).blt).withIrq (rowAdvance m s).irq := by
  unfold rowAdvance
  dsimp only
  split
  · split <;> rfl
  · rfl

theorem completeWord_touches (m : BltMode) (s : State) :
    completeWord m s = (s.withBlt (completeWord m s).blt).withIrq (completeWord m s).irq := by
  unfold completeWord
  rw [rowAdvance_touches]
  rfl

theorem lineFinish_touches (s : State) (b : Blitter) :
    lineFinish s b = (s.withBlt (lineFinish s b).blt).withIrq (lineFinish s b).irq := by
  unfold lineFinish
  dsimp only
  split <;> rfl

theorem dskbytHoldCountdown_touches (s : State) : dskbytHoldCountdown s = s.withDsk (dskbytHoldCountdown s).dsk := by
  unfold dskbytHoldCountdown
  split <;> rfl

theorem trackBufferLoad_touches (d : Fin 4) (s : State) : trackBufferLoad d s = s.withDsk (trackBufferLoad d s).dsk := by
  unfold trackBufferLoad
  split <;> rfl

theorem syncMatch_touches (s : State) :
    syncMatch s = (s.withIrq (syncMatch s).irq).withDsk (syncMatch s).dsk := rfl

theorem flushToDrive_touches (d : Fin 4) (s : State) :
    flushToDrive d s = (s.withDrives (flushToDrive d s).drives).withOut (flushToDrive d s).out := by
  unfold flushToDrive
  dsimp only
  split
  · rfl
  · split
    · rfl
    · split <;> rfl

/-- A flush reports at most a refused write-back: the bus owner of the record stays. -/
theorem flushToDrive_bus (d : Fin 4) (s : State) : (flushToDrive d s).out.bus = s.out.bus := by
  unfold flushToDrive
  dsimp only
  split
  · rfl
  · split
    · rfl
    · split <;> rfl

theorem diskWriteFlush_bus (s : State) : (diskWriteFlush s).out.bus = s.out.bus := by
  unfold diskWriteFlush
  dsimp only
  split
  · rfl
  · split
    · rfl
    · exact flushToDrive_bus _ _

theorem diskWriteFlush_touches (s : State) :
    diskWriteFlush s
      = ((s.withDrives (diskWriteFlush s).drives).withOut (diskWriteFlush s).out).withDsk (diskWriteFlush s).dsk := by
  unfold diskWriteFlush
  dsimp only
  split
  · rfl
  · split
    · rfl
    · rw [flushToDrive_touches]
      rfl

theorem writeDsklen_touches (v : Word) (s : State) :
    writeDsklen v s
      = (((s.withDrives (writeDsklen v s).drives).withOut (writeDsklen v s).out).withIrq (writeDsklen v s).irq).withDsk
          (writeDsklen v s).dsk := by
  unfold writeDsklen
  dsimp only
  split
  · rfl
  · split
    · split <;> rfl
    · split
      · rfl
      · split
        · rw [diskWriteFlush_touches]
          rfl
        · rfl

theorem writeDsklen_bus (v : Word) (s : State) : (writeDsklen v s).out.bus = s.out.bus := by
  unfold writeDsklen
  dsimp only
  split
  · rfl
  · split
    · split <;> rfl
    · split
      · rfl
      · split
        · exact diskWriteFlush_bus s
        · rfl

theorem driveControl_touches (old new : Byte) (s : State) :
    driveControl old new s = (s.withDrives (driveControl old new s).drives).withDsk (driveControl old new s).dsk := rfl

theorem setMedium_touches (d : Fin 4) (m : Option Medium) (s : State) :
    setMedium d m s = (s.withDrives (setMedium d m s).drives).withDsk (setMedium d m s).dsk := rfl

theorem todPulses_touches (s : State) :
    todPulses s = (s.withCiaA (todPulses s).ciaA).withCiaB (todPulses s).ciaB := by
  unfold todPulses
  dsimp only
  split
  · split <;> rfl
  · rfl

theorem ciaDivide_touches (s : State) :
    ciaDivide s = ((s.withCiaDiv (ciaDivide s).ciaDiv).withCiaA (ciaDivide s).ciaA).withCiaB (ciaDivide s).ciaB := by
  unfold ciaDivide
  split <;> rfl

theorem driveTicks_touches (s : State) :
    driveTicks s = (s.withDrives (driveTicks s).drives).withCiaB (driveTicks s).ciaB := by
  unfold driveTicks
  dsimp only
  split <;> rfl

theorem ciaIrqLines_touches (s : State) : ciaIrqLines s = s.withIrq (ciaIrqLines s).irq := by
  unfold ciaIrqLines
  dsimp only
  split <;> split <;> rfl

theorem ciaAndDriveTick_touches (s : State) :
    ciaAndDriveTick s
      = ((((s.withDrives (ciaAndDriveTick s).drives).withCiaDiv (ciaAndDriveTick s).ciaDiv).withCiaA
          (ciaAndDriveTick s).ciaA).withCiaB (ciaAndDriveTick s).ciaB).withIrq (ciaAndDriveTick s).irq := by
  unfold ciaAndDriveTick
  rw [ciaIrqLines_touches, driveTicks_touches, ciaDivide_touches, todPulses_touches]
  rfl

theorem audioMixIfDue_touches (s : State) :
    audioMixIfDue s = (s.withAud (audioMixIfDue s).aud).withOut (audioMixIfDue s).out := by
  unfold audioMixIfDue
  dsimp only
  split <;> rfl

theorem bitplaneShiftAndLatch_touches (s : State) : bitplaneShiftAndLatch s = s.withBpl (bitplaneShiftAndLatch s).bpl := rfl

theorem spriteCompareAndShift_touches (s : State) : spriteCompareAndShift s = s.withSpr (spriteCompareAndShift s).spr := rfl

theorem pixelOutput_touches (sv : Vector (BitVec 2) 8) (pf : List (BitVec 6)) (s : State) :
    pixelOutput sv pf s = s.withOut (pixelOutput sv pf s).out := rfl

theorem freeCycle_touches (s : State) : freeCycle s = s.withOut (freeCycle s).out := by
  unfold freeCycle
  split <;> rfl

theorem housekeeping_touches (s : State) :
    housekeeping s
      = ((s.withBpl (housekeeping s).bpl).withAud (housekeeping s).aud).withBlt (housekeeping s).blt := by
  unfold housekeeping
  rw [blitterStartTick_touches, audioPeriodTicks_touches, ddfTrack_touches]
  rfl

theorem fieldStart_touches (s : State) :
    fieldStart s
      = ((((s.withBeam (fieldStart s).beam).withCop (fieldStart s).cop).withSpr (fieldStart s).spr).withIrq
          (fieldStart s).irq).withOut (fieldStart s).out := rfl

theorem lineStart_touches (s : State) :
    lineStart s = (s.withBpl (lineStart s).bpl).withSpr (lineStart s).spr := rfl

theorem nextLine_touches (s : State) :
    nextLine s
      = ((((s.withBeam (nextLine s).beam).withCop (nextLine s).cop).withSpr (nextLine s).spr).withIrq
          (nextLine s).irq).withOut (nextLine s).out := by
  unfold nextLine
  split
  · rw [fieldStart_touches]
    rfl
  · rfl

theorem beamAdvance_touches (s : State) :
    beamAdvance s
      = (((((s.withBeam (beamAdvance s).beam).withCop (beamAdvance s).cop).withSpr (beamAdvance s).spr).withIrq
          (beamAdvance s).irq).withBpl (beamAdvance s).bpl).withOut (beamAdvance s).out := by
  unfold beamAdvance
  split
  · rw [lineStart_touches, nextLine_touches]
    rfl
  · rfl

/-! ### CIA accesses -/

theorem setPorts_touches (i : CiaId) (c : Cia) (s : State) :
    setPorts i c s
      = (((s.withCiaA (setPorts i c s).ciaA).withCiaB (setPorts i c s).ciaB).withDrives (setPorts i c s).drives).withDsk
          (setPorts i c s).dsk := by
  cases i
  · rfl
  · unfold setPorts setCiaBLines
    dsimp only
    split <;> rfl

theorem setCia_touches (i : CiaId) (c : Cia) (s : State) :
    s.setCia i c
      = (((s.withCiaA (s.setCia i c).ciaA).withCiaB (s.setCia i c).ciaB).withDrives (s.setCia i c).drives).withDsk
          (s.setCia i c).dsk := by
  cases i <;> rfl

theorem ciaWrite_touches (i : CiaId) (r : BitVec 4) (v : Byte) (s : State) :
    ciaWrite i r v s
      = (((s.withCiaA (ciaWrite i r v s).ciaA).withCiaB (ciaWrite i r v s).ciaB).withDrives (ciaWrite i r v s).drives).withDsk
          (ciaWrite i r v s).dsk := by
  unfold ciaWrite
  dsimp only
  split <;> first | exact setPorts_touches _ _ _ | exact setCia_touches _ _ _ | rfl

/-- What every CIA register write keeps, a CPU write in the CIA range keeps. -/
theorem ciaBytesWrite_keeps {P : State → Prop} (hw : ∀ i r v s, P s → P (ciaWrite i r v s)) (n : Nat) (v a : Long) (s : State)
    (h : P s) : P (ciaBytesWrite v a s n) := by
  induction n generalizing a s with
  | zero => exact h
  | succ n ih =>
    refine ih _ _ ?_
    unfold ciaByteWrite
    split
    · exact hw _ _ _ _ h
    · exact h

/-- What every CIA register read and the answer keep, a CPU read in the CIA range keeps. -/
theorem ciaBytesRead_keeps {P : State → Prop} (hr : ∀ i r s, P s → P (ciaReadEffect i r s))
    (ho : ∀ (s : State) (x : Long), P s → P (s.replied x)) (n : Nat) (acc a : Long) (s : State) (h : P s) :
    P (ciaBytesRead acc a s n) := by
  induction n generalizing acc a s with
  | zero => exact ho _ _ h
  | succ n ih =>
    refine ih _ _ _ ?_
    unfold ciaByteReadEffect
    split
    · exact hr _ _ _ h
    · exact h

/-! ### Register writes -/

/-- A register write touches the blocks the registers live in and nothing else: not chip memory, the beam, the CIAs, the
CPU-block counter, the parameters or the host's queue. -/
theorem regWriteReg_touches (r : Reg) (v : Word) (s t : State) (h : regWriteReg r v s = .next t) :
    t.mem = s.mem ∧ t.beam = s.beam ∧ t.cfg = s.cfg ∧ t.cpuBlock = s.cpuBlock ∧ t.ciaA = s.ciaA ∧ t.ciaB = s.ciaB
      ∧ t.ciaDiv = s.ciaDiv ∧ t.host = s.host ∧ t.cpuGrant = s.cpuGrant ∧ t.out.bus = s.out.bus := by
  cases r <;> simp only [regWriteReg, writeBlitter, writeBltsize] at h
  case dsklen =>
    cases h
    refine ⟨?_, ?_, ?_, ?_, ?_, ?_, ?_, ?_, ?_, writeDsklen_bus v s⟩
    all_goals
      rw [writeDsklen_touches]
      rfl
  all_goals first
    | (split at h
       · cases h <;> exact ⟨rfl, rfl, rfl, rfl, rfl, rfl, rfl, rfl, rfl, rfl⟩
       · cases h <;> exact ⟨rfl, rfl, rfl, rfl, rfl, rfl, rfl, rfl, rfl, rfl⟩)
    | (cases h; exact ⟨rfl, rfl, rfl, rfl, rfl, rfl, rfl, rfl, rfl, rfl⟩)

/-- The same of a write by offset; an offset without a register touches nothing. -/
theorem regWrite_touches (off v : Word) (s t : State) (h : regWrite off v s = .next t) :
    t.mem = s.mem ∧ t.beam = s.beam ∧ t.cfg = s.cfg ∧ t.cpuBlock = s.cpuBlock ∧ t.ciaA = s.ciaA ∧ t.ciaB = s.ciaB
      ∧ t.ciaDiv = s.ciaDiv ∧ t.host = s.host ∧ t.cpuGrant = s.cpuGrant ∧ t.out.bus = s.out.bus := by
  unfold regWrite at h
  split at h
  · exact regWriteReg_touches _ _ _ _ h
  · cases h
    exact ⟨rfl, rfl, rfl, rfl, rfl, rfl, rfl, rfl, rfl, rfl⟩

end Sys2Proof.Machine
end

