-- ==== Sys2Proof/Laws/PerInstr.lean ====
section
/-! SUPPORT. Statements made once per instruction. -/

namespace Sys2Proof.Laws.EncodedLength

open Sys2Proof.Machine

/-- The bytes of an instruction are as many as its group has: four for a copper instruction (R90), two for a blitter mode
(R205), one for a slot (R98). -/
def Statement (i : Instr) : Prop :=
  (encode i).length = match ownerOf i with
    | .copper => 4
    | .blitter => 2
    | _ => 1

theorem move (unused : BitVec 7) (off data : Word) : Statement (.move unused off data) := rfl
theorem wait (vp hp : Byte) (bfd : Bool) (ve : BitVec 7) (he : Byte) : Statement (.wait vp hp bfd ve he) := rfl
theorem skip (vp hp : Byte) (bfd : Bool) (ve : BitVec 7) (he : Byte) : Statement (.skip vp hp bfd ve he) := rfl
theorem slotRefresh0 : Statement .slotRefresh0 := rfl
theorem slotRefresh1 : Statement .slotRefresh1 := rfl
theorem slotRefresh2 : Statement .slotRefresh2 := rfl
theorem slotRefresh3 : Statement .slotRefresh3 := rfl
theorem slotDisk0 : Statement .slotDisk0 := rfl
theorem slotDisk1 : Statement .slotDisk1 := rfl
theorem slotDisk2 : Statement .slotDisk2 := rfl
theorem slotAud0 : Statement .slotAud0 := rfl
theorem slotAud1 : Statement .slotAud1 := rfl
theorem slotAud2 : Statement .slotAud2 := rfl
theorem slotAud3 : Statement .slotAud3 := rfl
theorem slotSpr0W0 : Statement .slotSpr0W0 := rfl
theorem slotSpr0W1 : Statement .slotSpr0W1 := rfl
theorem slotSpr1W0 : Statement .slotSpr1W0 := rfl
theorem slotSpr1W1 : Statement .slotSpr1W1 := rfl
theorem slotSpr2W0 : Statement .slotSpr2W0 := rfl
theorem slotSpr2W1 : Statement .slotSpr2W1 := rfl
theorem slotSpr3W0 : Statement .slotSpr3W0 := rfl
theorem slotSpr3W1 : Statement .slotSpr3W1 := rfl
theorem slotSpr4W0 : Statement .slotSpr4W0 := rfl
theorem slotSpr4W1 : Statement .slotSpr4W1 := rfl
theorem slotSpr5W0 : Statement .slotSpr5W0 := rfl
theorem slotSpr5W1 : Statement .slotSpr5W1 := rfl
theorem slotSpr6W0 : Statement .slotSpr6W0 := rfl
theorem slotSpr6W1 : Statement .slotSpr6W1 := rfl
theorem slotSpr7W0 : Statement .slotSpr7W0 := rfl
theorem slotSpr7W1 : Statement .slotSpr7W1 := rfl
theorem bltArea (bsh : BitVec 4) (unused : BitVec 7) (fci desc : Bool) : Statement (.bltArea bsh unused fci desc) := rfl
theorem bltFillInclusive (bsh : BitVec 4) (unused : BitVec 7) (fci desc : Bool) : Statement (.bltFillInclusive bsh unused fci desc) := rfl
theorem bltFillExclusive (bsh : BitVec 4) (unused : BitVec 7) (ife fci desc : Bool) : Statement (.bltFillExclusive bsh unused ife fci desc) := rfl
theorem bltLine (bsh : BitVec 4) (unusedHi : BitVec 5) (sign unusedLo sud sul aul sing : Bool) : Statement (.bltLine bsh unusedHi sign unusedLo sud sul aul sing) := rfl

end Sys2Proof.Laws.EncodedLength
end

