-- ==== Sys2Proof/Laws/Turns.lean ====
section
/-! SUPPORT. What each consumer's turn touches when it answers a next state. -/

namespace Sys2Proof.Machine

/-- Audio: the channels, an interrupt request, the record of the slot. -/
theorem audioTurnAt_touches (n : Fin 4) (s t : State) (h : audioTurnAt n s = .next t) :
    t = ((s.withAud t.aud).withIrq t.irq).withOut t.out := by
  unfold audioTurnAt audioSlot at h
  split at h
  · have h1 := (withMemRead_eq_next h).2
    have h2 := (withPtrAdd_eq_next h1).2
    cases h2
    split <;> rfl
  · cases h
    rfl

theorem diskCountDown_id_touches (s : State) :
    diskCountDown id s = (s.withDsk (diskCountDown id s).dsk).withIrq (diskCountDown id s).irq := by
  unfold diskCountDown
  dsimp only
  split <;> rfl

theorem diskCountDown_flush_touches (s : State) :
    diskCountDown diskWriteFlush s
      = (((s.withDrives (diskCountDown diskWriteFlush s).drives).withOut (diskCountDown diskWriteFlush s).out).withDsk
          (diskCountDown diskWriteFlush s).dsk).withIrq (diskCountDown diskWriteFlush s).irq := by
  unfold diskCountDown
  dsimp only
  split
  · rw [diskWriteFlush_touches]
    rfl
  · rfl

/-- A word read from the disk: chip memory, the disk block, an interrupt request, the record of the slot. -/
theorem diskReadWord_touches (s t : State) (h : diskReadWord s = .next t) :
    t = (((s.withMem t.mem).withDsk t.dsk).withIrq t.irq).withOut t.out := by
  unfold diskReadWord at h
  dsimp only at h
  split at h
  · cases h
    split <;> rfl
  · split at h
    · cases h
      split <;> rfl
    · obtain ⟨s3, h3, h4⟩ := (andThen_eq_next_iff _ _ _).1 h
      have h5 := (memWrite_eq_next h3).2
      have h6 := (withPtrAdd_eq_next h4).2
      subst h5
      cases h6
      rw [diskCountDown_id_touches]
      split <;> rfl

/-- A word written to the disk: the disk block, the media, an interrupt request, the record of the slot; not chip memory. -/
theorem diskWriteWord_touches (s t : State) (h : diskWriteWord s = .next t) :
    t = (((s.withDrives t.drives).withDsk t.dsk).withIrq t.irq).withOut t.out := by
  unfold diskWriteWord at h
  have h1 := (withMemRead_eq_next h).2
  have h2 := (withPtrAdd_eq_next h1).2
  cases h2
  rw [diskCountDown_flush_touches]
  rfl

/-- Disk: chip memory, the disk block, the media, an interrupt request, the record of the slot. -/
theorem diskTurnAt_touches (s t : State) (h : diskTurnAt s = .next t) :
    t = ((((s.withMem t.mem).withDrives t.drives).withDsk t.dsk).withIrq t.irq).withOut t.out := by
  unfold diskTurnAt diskSlot at h
  split at h
  · split at h
    · cases h
      rfl
    · dsimp only at h
      split at h
      · rw [diskWriteWord_touches _ _ h, trackBufferLoad_touches]
        rfl
      · rw [diskReadWord_touches _ _ h, trackBufferLoad_touches]
        rfl
  · cases h
    simp

/-- The registers a sprite's slot writes: one sprite changes, nothing else. -/
theorem spriteReg_write (n : Fin 8) (k : Fin 2) (st : SprDmaState) (w : Word) (s t : State)
    (h : regWriteReg (spriteReg n k st) w s = .next t) : ∃ f, t = s.mapSpr n f := by
  have hk : k = 0 ∨ k = 1 := by omega
  rcases hk with rfl | rfl <;> cases st <;> simp only [spriteReg, regWriteReg, Host.Outcome.next.injEq] at h
    <;> exact ⟨_, h.symm⟩

/-- Sprites: their registers and the record of the slot. -/
theorem spriteTurnAt_touches (n : Fin 8) (k : Fin 2) (s t : State) (h : spriteTurnAt n k s = .next t) :
    t = (s.withSpr t.spr).withOut t.out := by
  unfold spriteTurnAt spriteSlot at h
  split at h
  · have h1 := (withMemRead_eq_next h).2
    have h2 := (withPtrAdd_eq_next h1).2
    obtain ⟨s3, h3, h4⟩ := (andThen_eq_next_iff _ _ _).1 h2
    obtain ⟨f, hf⟩ := spriteReg_write _ _ _ _ _ _ h3
    have h5 := Host.Outcome.next.inj h4
    rw [← h5, hf]
    generalize s.spr[n] = p
    simp only [grant, State.mapSpr]
    rfl
  · cases h
    rfl

/-- Bitplanes: their registers and the record of the slot. -/
theorem bitplaneTurn_touches (s t : State) (h : bitplaneTurn s = .next t) : t = (s.withBpl t.bpl).withOut t.out := by
  unfold bitplaneTurn at h
  split at h
  · unfold bitplaneSlot withPlaneStep at h
    have h1 := (withMemRead_eq_next h).2
    have h2 := (withPtrAdd_eq_next h1).2
    dsimp only at h2
    split at h2
    · have h3 := (withPtrAdd_eq_next h2).2
      cases h3
      rfl
    · cases h2
      rfl
  · cases h
    rfl

/-! ### The blitter: chip memory, its registers, an interrupt request, the record of the slot -/

/-- `t` differs from `s` in those blocks at most. -/
def BlitterTouches (s t : State) : Prop := t = (((s.withMem t.mem).withBlt t.blt).withIrq t.irq).withOut t.out

theorem BlitterTouches.trans {s t u : State} (h : BlitterTouches s t) (k : BlitterTouches t u) : BlitterTouches s u := by
  unfold BlitterTouches at *
  rw [k, h]
  rfl

theorem BlitterTouches.of_blt_irq {s t : State} (e : t = (s.withBlt t.blt).withIrq t.irq) : BlitterTouches s t := by
  unfold BlitterTouches
  rw [e]
  rfl

theorem BlitterTouches.withBlt (s : State) (b : Blitter) : BlitterTouches s (s.withBlt b) := rfl

theorem bltFetch_touches (m : BltMode) (x : BltChan) (s t : State) (h : bltFetch m x s = .next t) : BlitterTouches s t := by
  unfold bltFetch withAreaStep at h
  have h1 := (withMemRead_eq_next h).2
  have h2 := (withPtrAdd_eq_next h1).2
  split at h2
  · have h3 := (withPtrAdd_eq_next h2).2
    cases h3
    rfl
  · cases h2
    rfl

theorem bltWriteD_touches (desc : Bool) (s t : State) (h : bltWriteD desc s = .next t) : BlitterTouches s t := by
  unfold bltWriteD withAreaStep at h
  obtain ⟨s1, h1, h2⟩ := (andThen_eq_next_iff _ _ _).1 h
  obtain ⟨-, rfl⟩ := memWrite_eq_next h1
  have h3 := (withPtrAdd_eq_next h2).2
  split at h3
  · have h4 := (withPtrAdd_eq_next h3).2
    cases h4
    rfl
  · cases h3
    rfl

theorem areaSlot_touches (m : BltMode) (ph : BltPhase) (s t : State) (h : areaSlot m ph s = .next t) :
    BlitterTouches s t := by
  cases ph
  case idle => cases h; rfl
  case d => exact bltWriteD_touches _ _ _ h
  all_goals exact bltFetch_touches _ _ _ _ h

theorem lineFetchC_touches (s t : State) (h : lineFetchC s = .next t) : BlitterTouches s t := by
  unfold lineFetchC at h
  have h1 := (withMemRead_eq_next h).2
  cases h1
  unfold BlitterTouches
  split <;> rfl

theorem lineWriteD_touches (m : LineMode) (s t : State) (h : lineWriteD m s = .next t) : BlitterTouches s t := by
  unfold lineWriteD at h
  dsimp only at h
  obtain ⟨s1, h1, h2⟩ := (andThen_eq_next_iff _ _ _).1 h
  cases h2
  split at h1
  · obtain ⟨-, rfl⟩ := memWrite_eq_next h1
    rfl
  · cases h1
    rfl

theorem lineSlot_touches (m : LineMode) (ph : BltPhase) (s t : State) (h : lineSlot m ph s = .next t) :
    BlitterTouches s t := by
  cases ph
  case idle => cases h; rfl
  case d => exact lineWriteD_touches _ _ _ h
  all_goals exact lineFetchC_touches _ _ h

/-- A property of the state that a step along one axis goes on with. -/
theorem lineStepX_eq_next {neg : Bool} {b : Blitter} {k : Blitter → Result} {t : State} (h : lineStepX neg b k = .next t) :
    ∃ b', k b' = .next t := by
  unfold lineStepX lineDecX lineIncX at h
  split at h
  · dsimp only at h
    split at h
    · exact ⟨_, (withPtrAdd_eq_next h).2⟩
    · exact ⟨_, h⟩
  · dsimp only at h
    split at h
    · exact ⟨_, (withPtrAdd_eq_next h).2⟩
    · exact ⟨_, h⟩

theorem lineStepY_eq_next {neg : Bool} {b : Blitter} {k : Blitter → Result} {t : State} (h : lineStepY neg b k = .next t) :
    ∃ b', k b' = .next t := by
  unfold lineStepY lineDecY lineIncY at h
  split at h <;> exact ⟨_, (withPtrAdd_eq_next h).2⟩

theorem lineMajorStep_eq_next {m : LineMode} {b : Blitter} {k : Blitter → Result} {t : State}
    (h : lineMajorStep m b k = .next t) : ∃ b', k b' = .next t := by
  unfold lineMajorStep at h
  split at h
  · exact lineStepX_eq_next h
  · exact lineStepY_eq_next h

theorem lineMinorStep_eq_next {m : LineMode} {b : Blitter} {k : Blitter → Result} {t : State}
    (h : lineMinorStep m b k = .next t) : ∃ b', k b' = .next t := by
  unfold lineMinorStep at h
  split at h
  · exact ⟨b, h⟩
  · split at h
    · exact lineStepY_eq_next h
    · exact lineStepX_eq_next h

theorem completeDot_touches (m : LineMode) (s t : State) (h : completeDot m s = .next t) : BlitterTouches s t := by
  unfold completeDot at h
  obtain ⟨b1, h1⟩ := lineMinorStep_eq_next h
  obtain ⟨b2, h2⟩ := lineMajorStep_eq_next h1
  cases h2
  exact .of_blt_irq (lineFinish_touches s b2)

/-- A turn under a pattern: nothing at all, or its slot and then at most the end of a period. -/
theorem patternTurn_touches {pat : List BltPhase} {needs : BltPhase → Bool} {slot : BltPhase → State → Result}
    {complete : State → Result} (hs : ∀ ph s t, slot ph s = .next t → BlitterTouches s t)
    (hc : ∀ s t, complete s = .next t → BlitterTouches s t) (s t : State)
    (h : patternTurn pat needs slot complete s = .next t) : BlitterTouches s t := by
  have hadv : ∀ s, phaseAdvance pat.length complete s = .next t → BlitterTouches s t := by
    intro s h1
    unfold phaseAdvance at h1
    split at h1
    · exact (BlitterTouches.withBlt s _).trans (hc _ _ h1)
    · cases h1
      rfl
  unfold patternTurn at h
  split at h
  · cases h
  · split at h
    · split at h
      · obtain ⟨s1, h1, h2⟩ := (andThen_eq_next_iff _ _ _).1 h
        exact (hs _ _ _ h1).trans (hadv _ h2)
      · cases h
        rfl
    · exact hadv _ h

theorem areaTurn_touches (m : BltMode) (s t : State) (h : areaTurn m s = .next t) : BlitterTouches s t := by
  refine patternTurn_touches (areaSlot_touches m) (fun s t h => ?_) s t h
  cases h
  exact .of_blt_irq (completeWord_touches m s)

theorem lineTurn_touches (m : LineMode) (s t : State) (h : lineTurn m s = .next t) : BlitterTouches s t :=
  patternTurn_touches (lineSlot_touches m) (completeDot_touches m) s t h

theorem finalTurn_touches (s t : State) (h : finalTurn s = .next t) : BlitterTouches s t := by
  unfold finalTurn at h
  split at h
  · split at h
    · obtain ⟨s1, h1, h2⟩ := (andThen_eq_next_iff _ _ _).1 h
      cases h2
      exact (bltWriteD_touches _ _ _ h1).trans (BlitterTouches.withBlt s1 _)
    · cases h
      rfl
  · cases h
    rfl

end Sys2Proof.Machine
end

