-- ==== Sys2Proof/Tests/Slice0.lean ====
section
/-! SUPPORT. The model's own tests: what well-formedness refuses, every row's word decoded and encoded, vectors of
spec/95_test_vectors.md, and a concrete state and operands for the hypotheses of each statement. -/

namespace Sys2Proof.Tests

open Sys2Proof Sys2Proof.Machine

set_option Elab.async false

/-! ### Asking an outcome -/

/-- The outcome is a next state of which `p` holds. -/
def nextIs (r : Result) (p : State → Bool) : Bool :=
  match r with
  | .next t => p t
  | .fault _ => false
  | .refused _ => false

/-- The outcome is the fault `e`. -/
def faultIs (r : Result) (e : Fault) : Bool :=
  match r with
  | .next _ => false
  | .fault x => x == e
  | .refused _ => false

/-- The outcome is the refusal `e`. -/
def refusalIs (r : Result) (e : Refusal) : Bool :=
  match r with
  | .next _ => false
  | .fault _ => false
  | .refused x => x == e

theorem next_of_nextIs {r : Result} {p : State → Bool} (h : nextIs r p = true) : ∃ t, r = .next t ∧ p t = true := by
  cases r with
  | next t => exact ⟨t, rfl, h⟩
  | fault _ => simp [nextIs] at h
  | refused _ => simp [nextIs] at h

theorem next_of_eq {r : Result} {u : State} (h : nextIs r (fun t => decide (t = u)) = true) : r = .next u := by
  obtain ⟨t, rfl, ht⟩ := next_of_nextIs h
  exact congrArg _ (of_decide_eq_true ht)

theorem ok_of_find {α : Type} {o : Except DecodeError α} {x : α} (h : o.toOption = some x) : o = .ok x := by
  cases o with
  | error e => cases h
  | ok y => exact congrArg _ (Option.some.inj h)

/-! ### Well-formedness: an ill-formed term for each check -/

theorem test_wf_refuses_odd_move_offset : (Instr.move 0 0x181 0).wf = false := by decide
theorem test_wf_refuses_high_move_offset : (Instr.move 0 0x380 0).wf = false := by decide
theorem test_wf_refuses_odd_wait_target : (Instr.wait 0x50 0x21 true 0x7F 0xFE).wf = false := by decide
theorem test_wf_refuses_odd_wait_mask : (Instr.wait 0x50 0x20 true 0x7F 0xFF).wf = false := by decide
theorem test_wf_refuses_odd_skip_target : (Instr.skip 0 1 true 0x7F 0xFE).wf = false := by decide
theorem test_wf_refuses_odd_skip_mask : (Instr.skip 0 0 true 0x7F 0xFF).wf = false := by decide

/-! ### Decoding: V-COP-1, and the slot map and mode formats of spec/30_encoding.md and spec/10_state.md R23 -/

theorem test_decode_copper :
    [0x01800F00, 0xFF801234, 0x5021FFFE, 0x50217FFE, 0x0001FFFF, 0xFFFFFFFE, 0x800180FE].map (decodeTableWord 32) =
      [some (.move 0 0x180 0x0F00), some (.move 0x7F 0x180 0x1234), some (.wait 0x50 0x20 true 0x7F 0xFE),
       some (.wait 0x50 0x20 false 0x7F 0xFE), some (.skip 0 0 true 0x7F 0xFE), some (.wait 0xFF 0xFE true 0x7F 0xFE),
       some (.wait 0x80 0 true 0 0xFE)] := by decide

theorem test_decode_low_slots :
    [0xE2, 0x01, 0x03, 0x05, 0x07, 0x09, 0x0B, 0x0D, 0x0F, 0x11, 0x13].map (decodeTableWord 8) =
      [some .slotRefresh0, some .slotRefresh1, some .slotRefresh2, some .slotRefresh3, some .slotDisk0, some .slotDisk1,
       some .slotDisk2, some .slotAud0, some .slotAud1, some .slotAud2, some .slotAud3] := by decide

theorem test_decode_sprite_slots :
    [0x15, 0x17, 0x19, 0x1B, 0x1D, 0x1F, 0x21, 0x23, 0x25, 0x27, 0x29, 0x2B, 0x2D, 0x2F, 0x31, 0x33].map (decodeTableWord 8) =
      [some .slotSpr0W0, some .slotSpr0W1, some .slotSpr1W0, some .slotSpr1W1, some .slotSpr2W0, some .slotSpr2W1,
       some .slotSpr3W0, some .slotSpr3W1, some .slotSpr4W0, some .slotSpr4W1, some .slotSpr5W0, some .slotSpr5W1,
       some .slotSpr6W0, some .slotSpr6W1, some .slotSpr7W0, some .slotSpr7W1] := by decide

theorem test_decode_blitter_modes :
    [0x1002, 0x000E, 0x0012, 0x0018, 0x304D].map (decodeTableWord 16) =
      [some (.bltArea 1 0 false true), some (.bltFillInclusive 0 0 true true),
       some (.bltFillExclusive 0 0 false false true), some (.bltFillExclusive 0 0 true false false),
       some (.bltLine 3 0 true false false true true false)] := by decide

theorem test_decode_refuses :
    [decodeTableWord 8 0x00, decodeTableWord 8 0x35, decodeTableWord 8 0x08, decodeTableWord 24 0] = [none, none, none, none] := by
  decide

theorem test_encode_copper :
    encode (.move 0x7F 0x180 0x1234) = [0xFF, 0x80, 0x12, 0x34]
      ∧ encode (.wait 0x50 0x20 false 0x7F 0xFE) = [0x50, 0x21, 0x7F, 0xFE]
      ∧ encode (.skip 0x50 0x20 true 0x7F 0xFE) = [0x50, 0x21, 0xFF, 0xFF] := by decide

theorem test_encode_blitter_modes :
    encode (.bltArea 1 0 false true) = [0x10, 0x02] ∧ encode (.bltFillInclusive 0 0 true true) = [0x00, 0x0E]
      ∧ encode (.bltFillExclusive 0 0 true false false) = [0x00, 0x18]
      ∧ encode (.bltLine 3 0 true false false true true false) = [0x30, 0x4D] := by decide

theorem test_encode_slots : encode .slotRefresh0 = [0xE2] ∧ encode .slotAud3 = [0x13] ∧ encode .slotSpr7W1 = [0x33] := by decide

/-! ### Small states -/

/-- After reset, with the row whose word is `w` run next. -/
def rowNext (nbits w : Nat) : State := State.reset.withFetchWord nbits w

/-- After reset, the copper in state `st` with `w1`, `w2` latched, the beam at (`v`, `h`), copper DMA on. -/
def copAt (st : CopState) (w1 w2 : Word) (v h : Word) : State :=
  { State.reset with dmacon := 0x0280, beam := ⟨h, v, false⟩, cop := { Copper.initial with st := st, ir1 := w1, ir2 := w2 } }

/-- After reset, a blit running with these control words, phase, size and pointers; blitter DMA on. -/
def bltAt (con0 con1 : Word) (phase : BitVec 4) (w : BitVec 7) (h : BitVec 11) : State :=
  { State.reset with
    dmacon := 0x0240
    mem := Mem.writeWord [] 0x1000 0x1234
    blt := { Blitter.initial with
      con0 := con0, con1 := con1, phase := phase, w := w, h := h, width := 2, height := h, st := .running, busy := true
      zero := true, afwm := 0xFFFF, alwm := 0xFFFF, apt := 0x1000, bpt := 0x1000, cpt := 0x11000, dpt := 0x2000 } }

/-- A drive with an all-zero medium, up to speed. -/
def readyDrive0 : Drive := ⟨true, 0, false, false, 0, 100000, some ⟨false, [], []⟩⟩

/-- After reset, drive 0 selected and up to speed with an all-zero medium, the word `w` under the head of a loaded buffer, and a
transfer of `n` words to 0x4000 active; `len` and `adkcon` as given. -/
def diskAt (len : Word) (n : BitVec 14) (adk : BitVec 15) (w : Word) : State :=
  { State.reset with
    dmacon := 0x0210
    adkcon := adk
    ciaB := { Cia.initial with prb := 0x77, ddrb := 0xFF }
    drives := #v[readyDrive0, Drive.initial Config.default none, Drive.initial Config.default none, Drive.initial Config.default none]
    dsk := { Disk.initial with
      pt := 0x4000, len := len, active := true, remaining := n, sync := 0x4489, buf := Mem.writeWord [] 0 w, bufValid := true } }

/-! ### Vectors of spec/95_test_vectors.md, one step each -/

/-- P1: MOVE #0x0F00, COLOR00. -/
theorem test_move_writes_color :
    nextIs (step (rowNext 32 0x01800F00)) (fun t => t.color[0] == 0xF00 && t.out.bus == .copper && t.cop.pc == 4) := by
  decide +kernel

/-- V-COP-6: a MOVE to 0x07E halts the copper; a MOVE to 0x080 is written. -/
theorem test_move_threshold :
    nextIs (step (rowNext 32 0x007E4489)) (fun t => t.cop.st == .halted && t.dsk.sync == 0)
      ∧ nextIs (step (rowNext 32 0x00800001)) (fun t => t.cop.st == .readInst && t.cop.lc1 == 0x10000) := by decide +kernel

/-- V-COP-2 and V-COP-4: WAIT 0x50, 0x20 holds from colclock 0x1F of line 0x50 on, not at 0x1E. -/
theorem test_wait_not_early_not_late :
    nextIs (step (copAt .wait 0x5021 0xFFFE 0x50 0x3C)) (fun t => t.cop.st == .wait && t.out.freeCycle)
      ∧ nextIs (step (copAt .wait 0x5021 0xFFFE 0x50 0x3E)) (fun t => t.cop.st == .readInst && t.out.freeCycle) := by
  decide +kernel

/-- V-COP-3 and V-COP-2: the blitter-finished bit; only the low eight bits of the line are compared. -/
theorem test_wait_condition :
    copperCond 0x50 0x20 false 0x7F 0xFE { copAt .wait 0 0 0x50 0x3E with blt := { Blitter.initial with busy := true } } = false
      ∧ copperCond 0x50 0x20 true 0x7F 0xFE (copAt .wait 0 0 0x150 0x3E) = true
      ∧ copperCond 0x50 0x20 true 0x7F 0xFE (copAt .wait 0 0 0x100 0x100) = false := by decide +kernel

/-- P2 and its variant: SKIP 0, 0 marks the next instruction at colclock 6; SKIP 0xFF, 0 does not. -/
theorem test_skip_marks :
    nextIs (step (copAt .skip 0x0001 0xFFFF 0 0xC)) (fun t => t.cop.st == .readInst && t.cop.skipNext)
      ∧ nextIs (step (copAt .skip 0xFF01 0xFFFF 0 0xC)) (fun t => t.cop.st == .readInst && !t.cop.skipNext) := by decide +kernel

/-- V-ARB-2: refresh wins over a copper that reads instructions. -/
theorem test_refresh_wins :
    nextIs (step (copAt .readInst 0 0 0 0x1C4)) (fun t => t.out.bus == .refresh && t.cop.pc == 0 && t.out.dmaAddress == 0) := by
  decide +kernel

/-- V-DSK-2: with no drive ready the slot is claimed and nothing moves. -/
theorem test_disk_not_ready :
    nextIs (step (rowNext 8 0x09)) (fun t => t.out.bus == .disk && t.out.dmaValue == 0 && t.dsk.remaining == 1 && t.mem == []) := by
  decide +kernel

/-- V-DSK-3: a match of the sync word is not stored, and starts the hold; the next word is stored. -/
theorem test_disk_word_sync :
    nextIs (exec .slotDisk0 (diskAt 0x8004 4 0x0400 0x4489))
        (fun t => t.dsk.synced && t.irq.intreq == 0x1000 && t.dsk.hold == 10 && t.dsk.remaining == 4 && t.mem == [])
      ∧ nextIs (exec .slotDisk1 { diskAt 0x8004 1 0x0400 0x552A with dsk := { (diskAt 0x8004 1 0x0400 0x552A).dsk with synced := true } })
        (fun t => Mem.readWord t.mem 0x4000 == 0x552A && t.dsk.pt == 0x4002 && !t.dsk.active && t.irq.intreq == 2) := by
  decide +kernel

/-- V-AUD-1: the fourth fetch of a loop of four words restarts it and raises the channel's request. -/
theorem test_audio_restart :
    nextIs (exec .slotAud0 { State.reset with
        dmacon := 0x0201
        aud := State.reset.aud.set 0 { AudioChan.initial with st := .dmaSamp1, lc := 0x3000, len := 4, ptr := 0x3006, wlen := 1, dmareq := true } })
      (fun t => t.out.dmaAddress == 0x3006 && t.aud[0].ptr == 0x3000 && t.aud[0].wlen == 4 && t.irq.intreq == 0x80) := by
  decide +kernel

/-- V-SPR-1: the position and the control word. -/
theorem test_sprite_control_words :
    nextIs (exec .slotSpr0W0 { (rowNext 8 0x15) with mem := Mem.writeWord [] 0 0x6450 }) (fun t => t.spr[0].pos == 0x6450)
      ∧ nextIs (exec .slotSpr0W1 { (rowNext 8 0x17) with mem := Mem.writeWord [] 0 0x6600 })
        (fun t => t.spr[0].ctl == 0x6600 && t.spr[0].dma == .idle && t.spr[0].pt == 2) := by decide +kernel

/-- P5, AT3: the A phase of a copy. -/
theorem test_area_fetches_a :
    nextIs (step (bltAt 0x09F0 0 0 2 1)) (fun t => t.out.bus == .blitter && t.blt.apt == 0x1002 && t.blt.adat == 0x1234) := by
  decide +kernel

/-- P5, AT6: the D phase writes the pending word, and the last word of the blit enters `final`. -/
theorem test_area_writes_d :
    nextIs (step { bltAt 0x09F0 0 1 1 1 with
        blt := { (bltAt 0x09F0 0 1 1 1).blt with adat := 0x5678, ddat := 0x1234, dpending := true } })
      (fun t => Mem.readWord t.mem 0x2000 == 0x1234 && t.blt.dpt == 0x2002 && t.blt.ddat == 0x5678 && t.blt.dlast
        && t.blt.st == .final && !t.blt.busy && t.irq.countdown[6] == 9) := by decide +kernel

/-- V-BLT-5: both fills. -/
theorem test_fill_words :
    fillWord false false 0x0004 = (0xFFFC, true) ∧ fillWord true true 0 = (0xFFFF, true)
      ∧ fillWord false true 1 = (1, false) ∧ fillWord true true 1 = (0, false) := by decide +kernel

/-- R219: with SUD clear and SUL, AUL clear, a non-negative error moves right and the dot moves down by the pitch. -/
theorem test_line_step_down_right :
    nextIs (completeDot ⟨0, false, false, false, false, false⟩
        { State.reset with blt := { Blitter.initial with con0 := 0xFBCA, cpt := 0x20000, cmod := 40, h := 3 } })
      (fun t => t.blt.cpt == 0x2002A && t.blt.con0 == 0x0BCA && t.blt.dpt == 0x2002A && t.blt.h == 2) := by decide +kernel

/-- V-BLT-2, V-BLT-4: cookie cut, and the numbering of the product terms. -/
theorem test_minterms :
    minterm 0xCA 0xFF00 0x1234 0xABCD = 0x12CD ∧ minterm 0x20 0xFFFF 0 0xFFFF = 0xFFFF ∧ minterm 0x20 0xFFFF 0xFFFF 0xFFFF = 0 := by
  decide +kernel

/-- V-MFM-1, V-MFM-2. -/
theorem test_mfm_cells :
    [mfmByte true 0, mfmByte false 0xA1, mfmByte false 0x55, mfmByte true 0x80] = [0x2AAA, 0x44A9, 0x9111, 0x4AAA]
      ∧ oddHalf 0xDEADBEEF = 0x45545555 ∧ evenHalf 0xDEADBEEF = 0x54051445
      ∧ joinHalves 0x552AAAA5 0x552AAAA9 = 0xFF00000B := by decide +kernel

/-- V-RST-1: the first step after reset is a free cycle and ends at (0, 1). -/
theorem test_first_step_after_reset :
    nextIs (step State.reset) (fun t => t.out.freeCycle && t.out.bus == .none && t.out.beamV == 0 && t.out.beamH == 1) := by
  decide +kernel

/-- V-ARB-8: the line end and the end of a short field. -/
theorem test_beam_wraps :
    (beamAdvance { State.reset with beam := ⟨453, 10, false⟩ }).beam = ⟨0, 11, false⟩
      ∧ (beamAdvance { State.reset with beam := ⟨453, 311, false⟩ }).beam = ⟨0, 0, false⟩
      ∧ (beamAdvance { State.reset with beam := ⟨453, 311, false⟩ }).irq.intreq = 0x20 := by decide +kernel

/-- V-REG-1, V-REG-2, V-REG-4. -/
theorem test_register_writes :
    nextIs (regWrite 0x096 0x8240 State.reset) (fun t => t.dmacon == 0x0240)
      ∧ nextIs (regWrite 0x096 0xFFFF State.reset) (fun t => t.dmacon == 0x07FF)
      ∧ nextIs (regWrite 0x381 0x0123 State.reset) (fun t => t.color[0] == 0x123)
      ∧ nextIs (regWrite 0x0E2 0x2345 State.reset) (fun t => t.bpl.pt[0] == 0x2345) := by decide +kernel

/-- V-CIA-2: reading register 13 gives 0x81 and clears the flags. -/
theorem test_cia_flags_read :
    nextIs (hostCall (.ciaRead .a 13) { State.reset with ciaA := { Cia.initial with icrData := 1, irq := true } })
      (fun t => t.out.reply == some 0x81 && t.ciaA.icrData == 0 && !t.ciaA.irq) := by decide +kernel

/-- R352: registers 8 bits wide on their byte lanes; a word at 0xBFE400 holds register 4 of instance A in its low byte. -/
theorem test_cia_word_access :
    nextIs (hostCall (.cpuWrite .word 0xBFE400 0x1234) State.reset) (fun t => t.ciaA.taLatch == 0xFF34 && t.ciaB == Cia.initial)
      ∧ nextIs (hostCall (.cpuRead .word 0xBFE600) { State.reset with ciaA := { Cia.initial with tb := 0x0056 } })
        (fun t => t.out.reply == some 0xFF56) := by decide +kernel

/-- R72, R354: after reset the ROM stands at the bottom of the CPU's address space; with OVL an output at 0 chip memory does. -/
theorem test_rom_overlay :
    nextIs (hostCall (.cpuRead .word 2) { State.reset with cfg := { Config.default with rom := [(2, 0x11), (3, 0x4E)] }, mem := [(3, 7)] })
        (fun t => t.out.reply == some 0x114E)
      ∧ nextIs (hostCall (.cpuRead .word 2) { State.reset with ciaA := { Cia.initial with ddra := 1 }, mem := [(3, 7)], cpuGrant := true })
        (fun t => t.out.reply == some 0x0007) := by decide +kernel

/-- V-PIX-1. -/
theorem test_colours : [argb 0xF80, argb 0x000, argb 0x123] = [0xFFFF8800, 0xFF000000, 0xFF112233] := by decide +kernel

/-- V-AUD-6: the mixer with the default filter. -/
theorem test_mixer :
    (AudioChan.mix Config.default { AudioChan.initial with out := 0x7F, vol := 64 }).filt = 4064
      ∧ (AudioChan.mix Config.default { AudioChan.initial with out := 0x80, vol := 64, filt := -4096 }).filt = -6144 := by
  decide +kernel

/-! ### Witnesses: a concrete state and operands for the hypotheses of each statement, clause by clause -/

theorem fits_of {p : Long} {k : Int} (h : decide (0 ≤ (p.toNat : Int) + k ∧ (p.toNat : Int) + k < 4294967296) = true) :
    ptrFits p k := by
  unfold ptrFits
  exact of_decide_eq_true h

theorem default_wf : Config.default.wf = true := by decide +kernel

theorem next_of {r : Result} (h : nextIs r (fun _ => true) = true) : ∃ t, r = .next t := by
  obtain ⟨t, ht, -⟩ := next_of_nextIs h
  exact ⟨t, ht⟩

theorem wit_DecodeOfEncodedInstruction :
    (Instr.move 0x7F 0x1FE 0xFFFF).wf ∧ (Instr.wait 0xFF 0xFE true 0x7F 0xFE).wf ∧ (Instr.skip 0 0 false 0 0).wf
      ∧ Instr.slotRefresh0.wf ∧ (Instr.bltLine 15 31 true true true true true true).wf := by decide

theorem wit_EncodeOfDecodedBytes :
    decode [0xE2] = .ok .slotRefresh0 ∧ decode [0x00, 0x0E] = .ok (.bltFillInclusive 0 0 true true)
      ∧ decode [0x01, 0x80, 0x0F, 0x00] = .ok (.move 0 0x180 0x0F00) :=
  ⟨ok_of_find (by decide), ok_of_find (by decide), ok_of_find (by decide)⟩

theorem wit_FixedSlotMapHasOneOwnerPerColclock :
    ((0x34 : Byte) ≠ 0xE2 ∧ 0x33 < (0x34 : Byte).toNat) ∧ ((0 : Byte) ≠ 0xE2 ∧ (0 : Byte).toNat % 2 = 0) := by decide

/-- P1's first MOVE, the call that runs it taken off the queue. -/
def copS0 : State := (rowNext 32 0x01800F00).withHost []

theorem wit_StepRunsTheFetchedCopperInstruction :
    tickCall (rowNext 32 0x01800F00) = some (false, copS0) ∧ copS0.isArbTick ∧ granted (slotEntry copS0) = .copper
      ∧ (slotEntry copS0).cop.st = .readInst ∧ (slotEntry copS0).cop.haveIr1
      ∧ dmaInRange (slotEntry copS0) (slotEntry copS0).cop.pc ∧ ptrFits (slotEntry copS0).cop.pc 2
      ∧ decode (bytesOfWord (slotEntry copS0).cop.ir1
          ++ Mem.readBytes (slotEntry copS0).mem (dmaAddr (slotEntry copS0) (slotEntry copS0).cop.pc) 2)
        = .ok (.move 0 0x180 0x0F00) :=
  ⟨by decide +kernel, by decide +kernel, by decide +kernel, by decide +kernel, by decide +kernel, by decide +kernel,
    fits_of (by decide +kernel), ok_of_find (by decide +kernel)⟩

/-- The slot of audio channel 0 run next. -/
def audS0 : State := (rowNext 8 0x0D).withHost []

theorem wit_StepRunsTheSlotRowOfTheColclock :
    tickCall (rowNext 8 0x0D) = some (false, audS0) ∧ audS0.isArbTick ∧ audS0.beam.hpos.toNat / 2 < 256
      ∧ decode [BitVec.ofNat 8 (audS0.beam.hpos.toNat / 2)] = .ok .slotAud0 ∧ granted (slotEntry audS0) = ownerOf .slotAud0 :=
  ⟨by decide +kernel, by decide +kernel, by decide +kernel, ok_of_find (by decide +kernel), by decide +kernel⟩

/-- A blit in line mode run next, in a D phase that needs the bus. -/
def linS0 : State :=
  let s := (rowNext 16 0x304D).withHost []
  s.withBlt { s.blt with phase := 3 }

theorem wit_StepRunsTheBlitterModeOfItsControlWord :
    tickCall (linS0.withHost [.tick false 0]) = some (false, linS0) ∧ linS0.isArbTick
      ∧ granted (slotEntry linS0) = .blitter ∧ (slotEntry linS0).blt.st = .running
      ∧ decode (bytesOfWord (slotEntry linS0).blt.con1) = .ok (.bltLine 3 0 true false false true true false) :=
  ⟨by decide +kernel, by decide +kernel, by decide +kernel, by decide +kernel, ok_of_find (by decide +kernel)⟩

theorem wit_StepMakesTheNextHostCall :
    State.reset.host = [] ∧ (rowNext 8 1).host = .tick false 0 :: [] := by decide +kernel

theorem wit_MoveIsProtectedThenSkippedThenWritten :
    (moveOffsetOk 0x07E ∧ (0x07E : Word).toNat < State.reset.cfg.copProtectSafe.toNat ∧ State.reset.cop.con.getLsbD 1 = false)
      ∧ (moveOffsetOk 0x080 ∧ State.reset.cfg.copProtectSafe.toNat ≤ (0x080 : Word).toNat)
      ∧ (moveOffsetOk 0x03E ∧ (0x03E : Word).toNat < Config.default.copProtectDanger.toNat)
      ∧ { State.reset with cop := { Copper.initial with skipNext := true } }.cop.skipNext
      ∧ State.reset.cop.skipNext = false ∧ State.reset.cfg = Config.default := by decide +kernel

theorem wit_MoveCompletesWhileTheBlitterIsStopped : State.reset.blt.st = .stopped ∧ State.reset.blt.busy = false := by
  decide +kernel

theorem wit_WaitAndSkipUseOneUnclaimedTurn :
    (copAt .readInst 0x5021 0xFFFE 0 0).cop.st = .readInst ∧ (copAt .needFreeCycle 0x5021 0xFFFE 0 0).cop.st = .needFreeCycle := by
  decide +kernel

theorem wit_WaitAndSkipCompareTheBeamWithTheTarget :
    (copAt .wait 0x5021 0xFFFE 0x50 0x3E).cop.st = .wait ∧ (copAt .skip 1 0xFFFF 0 0xC).cop.st = .skip := by decide +kernel

theorem wit_FullMaskWaitStaysMetToTheLineEnd :
    (copAt .wait 0 0 0x50 0x3E).cop.st = .wait ∧ (copAt .wait 0 0 0x50 0x1FC).cop.st = .wait
      ∧ (copAt .wait 0 0 0x50 0x3E).beam.vpos = (copAt .wait 0 0 0x50 0x1FC).beam.vpos
      ∧ (copAt .wait 0 0 0x50 0x3E).beam.hpos.toNat / 2 ≤ (copAt .wait 0 0 0x50 0x1FC).beam.hpos.toNat / 2
      ∧ (copAt .wait 0 0 0x50 0x1FC).beam.hpos.toNat / 2 < 255
      ∧ exec (.wait 0x50 0x20 true 0x7F 0xFE) (copAt .wait 0 0 0x50 0x3E) =
        .next { (copAt .wait 0 0 0x50 0x3E) with cop := { (copAt .wait 0 0 0x50 0x3E).cop with st := .readInst } } :=
  ⟨by decide +kernel, by decide +kernel, by decide +kernel, by decide +kernel, by decide +kernel, next_of_eq (by decide +kernel)⟩

theorem wit_EndOfListWaitNeverResolves :
    (copAt .wait 0xFFFF 0xFFFE 0xFF 0x1C5).cop.st = .wait ∧ (copAt .wait 0xFFFF 0xFFFE 0xFF 0x1C5).beam.hpos.toNat / 2 ≤ 0xE2 := by
  decide +kernel

theorem wit_CopperTurnFollowsItsState :
    State.reset.dmaOn 7 = false
      ∧ [CopState.halted, .vblank, .readInst, .needFreeCycle, .wait, .skip, .jmpDelay1, .jmpDelay2].all
        (fun st => (copAt st 0 0 0 0).dmaOn 7 && (copAt st 0 0 0 0).cop.st == st) := by decide +kernel

/-- The copper reading at `pc`, with `ir1` latched if `have`, under parameters `k`. -/
def fetchAt (k : Config) (pc : Long) (ir1 : Word) (have1 : Bool) : State :=
  { copAt .readInst ir1 0 0 0 with cfg := k, cop := { Copper.initial with st := .readInst, pc := pc, ir1 := ir1, haveIr1 := have1 } }

/-- Parameters under which the whole top of the pointer container is chip memory. -/
def topConfig : Config := { Config.default with chipAddrMask := 0x7FFFE }

theorem wit_CopperFetchTakesOneWordAndExecutesTheSecond :
    ((fetchAt { Config.default with copperBlocked := [0] } 0 0 false).cop.st = .readInst
        ∧ (fetchAt { Config.default with copperBlocked := [0] } 0 0 false).beam.hpos.toNat / 2 ∈
          (fetchAt { Config.default with copperBlocked := [0] } 0 0 false).cfg.copperBlocked)
      ∧ (fetchAt Config.default 0x80000 0 false).beam.hpos.toNat / 2 ∉ (fetchAt Config.default 0x80000 0 false).cfg.copperBlocked
      ∧ dmaInRange (fetchAt Config.default 0x80000 0 false) 0x80000 = false
      ∧ (dmaInRange (fetchAt topConfig 0xFFFFFFFE 0 false) 0xFFFFFFFE ∧ ¬ ptrFits 0xFFFFFFFE 2)
      ∧ (dmaInRange (fetchAt Config.default 0x7FFFE 0x180 true) 0x7FFFE ∧ ptrFits 0x7FFFE 2
        ∧ (fetchAt Config.default 0x7FFFE 0x180 true).cop.haveIr1 ∧ (0x180 : Word).getLsbD 0 = false ∧ (0x181 : Word).getLsbD 0) :=
  ⟨by decide +kernel, by decide +kernel, by decide +kernel,
    ⟨by decide +kernel, by unfold ptrFits; decide⟩,
    ⟨by decide +kernel, fits_of (by decide), by decide +kernel, by decide, by decide⟩⟩

theorem wit_JumpStrobesTakeTwoTurnsToTheLocationRegister :
    (copAt .jmpDelay1 0 0 0 0).dmaOn 7 ∧ (copAt .jmpDelay1 0 0 0 0).cop.st = .jmpDelay1
      ∧ ∃ t, customRead .word 0x002 State.reset = .next t :=
  ⟨by decide +kernel, by decide +kernel, next_of (by decide +kernel)⟩

/-- After reset, channel 0 with the fields of `c` and the DMA enables `dma`. -/
def audAt (dma : Word) (c : AudioChan) : State := { State.reset with dmacon := dma, aud := State.reset.aud.set 0 c }

theorem wit_DmaconWriteStopsDisabledAudioAtOnce :
    (∃ t, regWriteReg .dmacon 0x0001 (audAt 0x0201 { AudioChan.initial with st := .dmaSamp1 }) = .next t)
      ∧ (audAt 0x0200 { AudioChan.initial with st := .dmaSamp1 }).dmaOn (0 : Fin 4).val = false
      ∧ (audAt 0x0200 { AudioChan.initial with st := .dmaSamp1 }).aud[(0 : Fin 4)].st ≠ .inactive :=
  ⟨next_of (by decide +kernel), by decide +kernel, by decide +kernel⟩

theorem wit_BlitterRegistersRefuseWritesWhileBusy :
    (bltAt 0 0 0 2 1).blt.st ≠ .stopped ∧ (bltAt 0 0 0 2 1).blt.busy ∧ State.reset.blt.busy = false := by decide +kernel

theorem wit_SizeWriteStartsAStoppedBlitter : State.reset.blt.st = .stopped := by decide +kernel

theorem wit_DiskLengthWritesStartAndStopTransfers :
    ((0x8004 : Word).getLsbD 15 ∧ (diskAt 0x8004 4 0 0).dsk.active)
      ∧ ((0x8000 : Word).getLsbD 15 ∧ { State.reset with dsk := { Disk.initial with prevEn := true } }.dsk.active = false
        ∧ { State.reset with dsk := { Disk.initial with prevEn := true } }.dsk.prevEn)
      ∧ (State.reset.dsk.active = false ∧ State.reset.dsk.prevEn = false)
      ∧ (0x0000 : Word).getLsbD 15 = false := by decide +kernel

theorem wit_RegisterReadsGiveTheDefinedValueOrTheFiller :
    ((regAt State.reset.cfg 0x000).bind fun r => regValue r State.reset) = none
      ∧ ((regAt State.reset.cfg 0x180).bind fun r => regValue r State.reset) = none
      ∧ regAt State.reset.cfg 0x002 = some .dmaconr ∧ regValue .dmaconr State.reset = some 0
      ∧ regAt State.reset.cfg 0x1FE = none ∧ (regValue .vposr State.reset).isSome := by decide +kernel

theorem wit_CpuRegisterAccessesMatchCopperMoves :
    (0x280 : Word).getLsbD 0 = false ∧ State.reset.cop.skipNext = false
      ∧ State.reset.cfg.copProtectSafe.toNat ≤ ((0x280 : Word) &&& 0x01FE).toNat ∧ State.reset.cop.con.getLsbD 1 = false
      ∧ (0x181 : Word).getLsbD 0 := by decide +kernel

/-- R32: offsets the table does not list, at the edges of its ranges. -/
theorem wit_UnlistedOffsets :
    ([0x000, 0x05A, 0x068, 0x08C, 0x098, 0x0AC, 0x0DE, 0x0F8, 0x106, 0x10C, 0x11C, 0x1C0, 0x1FE].map fun o =>
        (regAt Config.default o).isNone).all id := by decide +kernel

theorem wit_DmaAccessesOutsideMemoryOrContainerFault :
    (((0x7FFFF : Long) &&& State.reset.cfg.chipAddrMask).toNat + 1 < State.reset.cfg.chipMemBytes ∧ Mem.wf State.reset.mem)
      ∧ State.reset.cfg.chipMemBytes ≤ ((0x80000 : Long) &&& State.reset.cfg.chipAddrMask).toNat + 1
      ∧ ptrFits 0xFFFFFFFD 2 ∧ ¬ ptrFits 0xFFFFFFFE 2 ∧ ptrFits 1 (-1) ∧ ¬ ptrFits 1 (-2) :=
  ⟨by decide +kernel, by decide +kernel, fits_of (by decide), by unfold ptrFits; decide, fits_of (by decide),
    by unfold ptrFits; decide⟩

theorem wit_ChipMemoryReadsBackWhatTheCpuWrote :
    Mem.wf State.reset.mem
      ∧ ((0x7FFFC : Long).getLsbD 0 = false ∧ (0x7FFFC : Long).toNat + Width.long.bytes ≤ State.reset.cfg.chipMemBytes)
      ∧ (0x7FFFF : Long).toNat + Width.byte.bytes ≤ State.reset.cfg.chipMemBytes
      ∧ (0x1001 : Long).getLsbD 0
      ∧ ((0x7FFFE : Long).getLsbD 0 = false ∧ State.reset.cfg.chipMemBytes < (0x7FFFE : Long).toNat + Width.long.bytes)
      ∧ (ciaAnswers State.reset.cfg 0x3FFFE = false ∧ ¬ State.reset.cfg.customBase ≤ 0x3FFFE ∧ ¬ State.reset.cfg.romBase ≤ 0x3FFFE
        ∧ 0x3FFFE < State.reset.cfg.overlaySize ∧ 0x3FFFE < State.reset.cfg.chipMemBytes)
      ∧ ovl State.reset ∧ ovl { State.reset with ciaA := { Cia.initial with ddra := 1 } } = false := by
  decide +kernel

theorem wit_ChipBusAccessNeedsAGrantedFreeCycle :
    State.reset.cpuGrant = false ∧ { State.reset with cpuGrant := true }.cpuGrant ∧ ∃ t, tick true State.reset = .next t :=
  ⟨by decide +kernel, by decide +kernel, next_of (by decide +kernel)⟩

theorem wit_DisplayRegisterWritesStoreArmAndDisarm : (5 : Fin 6) ≠ 0 ∧ (0 : Fin 6) = 0 := by decide

theorem wit_ChainGrantsTheFirstRequestInOrder :
    (State.reset.out.bus = .none ∧ State.reset.out.freeCycle = false ∧ ∃ t, arbitrate true State.reset = .next t)
      ∧ (slotEntry audS0).out.bus = .none ∧ (∃ t, arbitrate true (slotEntry audS0) = .next t)
      ∧ (∃ t, fixedTurn .audio (slotEntry audS0) = .next t) ∧ (∃ t, copperTurn (slotEntry copS0) = .next t)
      ∧ ∃ t, blitterTurn (slotEntry linS0) = .next t :=
  ⟨⟨by decide +kernel, by decide +kernel, next_of (by decide +kernel)⟩, by decide +kernel, next_of (by decide +kernel),
    next_of (by decide +kernel), next_of (by decide +kernel), next_of (by decide +kernel)⟩

theorem wit_CpuBlockCounterFollowsTheSlots :
    (State.reset.out.bus = .none ∧ ∃ t, arbitrate true State.reset = .next t)
      ∧ bltNeedsBus { bltAt 0x09F0 0 0 2 1 with cpuBlock := 3 } ∧ busOk { bltAt 0x09F0 0 0 2 1 with cpuBlock := 3 } = false :=
  ⟨⟨by decide +kernel, next_of (by decide +kernel)⟩, by decide +kernel, by decide +kernel⟩

theorem wit_RefreshAlwaysWins :
    (copAt .readInst 0 0 0 0x1C4).beam.hpos.toNat / 2 ∈ [0xE2, 0x01, 0x03, 0x05] ∧ Config.default.wf :=
  ⟨by decide +kernel, default_wf⟩

theorem wit_TickWritesAtMostTheReportedWord :
    (∃ t, tick false linS0 = .next t) ∧ (∃ t, tick false { State.reset with beam := ⟨1, 0, false⟩ } = .next t)
      ∧ { State.reset with beam := ⟨1, 0, false⟩ }.beam.hpos.toNat % 2 = 1 :=
  ⟨next_of (by decide +kernel), next_of (by decide +kernel), by decide +kernel⟩

theorem wit_BeamAdvanceWrapsLinesAndFields :
    State.reset.cfg.wf ∧ BeamInv State.reset ∧ State.reset.beam.hpos.toNat + 1 < State.reset.cfg.lineTicks
      ∧ (BeamInv { State.reset with beam := ⟨453, 10, false⟩ } ∧ (453 : Word).toNat + 1 = State.reset.cfg.lineTicks)
      ∧ (BeamInv { State.reset with beam := ⟨453, 311, false⟩ } ∧ (311 : Word).toNat + 1 = State.reset.cfg.linesShort) :=
  ⟨default_wf, ⟨by decide +kernel, by decide +kernel⟩, by decide +kernel,
    ⟨⟨by decide +kernel, by decide +kernel⟩, by decide +kernel⟩, ⟨⟨by decide +kernel, by decide +kernel⟩, by decide +kernel⟩⟩

/-- A channel that asks for a word at `p`. -/
def audReq (p : Long) : State := audAt 0x0201 { AudioChan.initial with st := .dmaSamp1, ptr := p, wlen := 1, dmareq := true }

theorem wit_AudioRowFetchesOneWord :
    ((audReq 0x7FFFE).dmaOn (0 : Fin 4).val ∧ (audReq 0x7FFFE).aud[(0 : Fin 4)].dmareq ∧ dmaInRange (audReq 0x7FFFE) 0x7FFFE
        ∧ (audReq 0x7FFFE).aud[(0 : Fin 4)].ptr = 0x7FFFE)
      ∧ ptrFits 0x7FFFE 2
      ∧ (State.reset.dmaOn (0 : Fin 4).val = false ∧ State.reset.aud[(0 : Fin 4)].dmareq = false)
      ∧ ((audReq 0x80000).dmaOn (0 : Fin 4).val ∧ (audReq 0x80000).aud[(0 : Fin 4)].dmareq
        ∧ dmaInRange (audReq 0x80000) (audReq 0x80000).aud[(0 : Fin 4)].ptr = false) :=
  ⟨by decide +kernel, fits_of (by decide), by decide +kernel, by decide +kernel⟩

theorem wit_AudioPeriodTickPlaysHalfSamples :
    (State.reset.dmaOn (0 : Fin 4).val = false ∧ State.reset.aud[(0 : Fin 4)].st = .inactive)
      ∧ (audAt 0x0201 AudioChan.initial).dmaOn (0 : Fin 4).val
      ∧ [AudState.inactive, .dmaStarting, .dmaSamp1, .dmaSamp2].all
        (fun st => (audAt 0x0201 { AudioChan.initial with st := st, percnt := 1 }).aud[(0 : Fin 4)].st == st
          && (audAt 0x0201 { AudioChan.initial with st := st, percnt := 1 }).aud[(0 : Fin 4)].percnt.toNat == 1
          && (audAt 0x0201 { AudioChan.initial with st := st, percnt := 0 }).aud[(0 : Fin 4)].percnt.toNat != 1) := by
  decide +kernel

/-- The mixer's instants, and another tick (V-AUD-6: hpos 0 and 227). -/
theorem wit_MixerInstants :
    State.reset.beam.hpos.toNat = State.reset.cfg.audMixTick1 ∧ State.reset.cfg.audMixTick2 = 227
      ∧ nextIs (tick false State.reset) (fun t => t.out.sample == some (0, 0))
      ∧ nextIs (tick false { State.reset with beam := ⟨227, 0, false⟩ }) (fun t => t.out.sample == some (0, 0))
      ∧ nextIs (tick false { State.reset with beam := ⟨2, 0, false⟩ }) (fun t => t.out.sample == none) := by decide +kernel

/-- A write transfer of which `left` of 4 words remain, the drive holding the medium `m`. -/
def flushAt (left : BitVec 14) (m : Medium) : State :=
  { diskAt 0xC004 left 0 0x1234 with
    drives := (diskAt 0xC004 left 0 0x1234).drives.set 0 { readyDrive0 with media := some m } }

/-- What the flush can meet: no bytes, a raw track, a refused sector track, a write-protected medium; a buffer to load. -/
theorem wit_TrackLoadAndFlush :
    (flushCount (flushAt 4 ⟨false, [], []⟩) = 0 ∧ flushCount (flushAt 2 ⟨false, [], []⟩) = 4)
      ∧ (readyDrive (flushAt 2 ⟨false, [], [(0, [])]⟩) = some 0
        ∧ (diskWriteFlush (flushAt 2 ⟨false, [], [(0, [])]⟩)).drives[(0 : Fin 4)].media = some ⟨false, [], [(0, [0, 0, 0, 0])]⟩)
      ∧ (diskWriteFlush { flushAt 2 ⟨false, [], []⟩ with
          dsk := { (flushAt 2 ⟨false, [], []⟩).dsk with buf := Mem.writeWord [] 12664 0x4489 } }).out.mediaError
            = some .truncatedSector
      ∧ (diskWriteFlush (flushAt 2 ⟨true, [], [(0, [])]⟩)).drives[(0 : Fin 4)].media = some ⟨true, [], [(0, [])]⟩
      ∧ (diskWriteFlush (flushAt 2 ⟨true, [], []⟩)).dsk.bufValid = false ∧ State.reset.dsk.bufValid = false := by decide +kernel

theorem wit_DiskRowMovesOneWord :
    State.reset.dmaOn 4 = false
      ∧ ((rowNext 8 0x09).dmaOn 4 ∧ (rowNext 8 0x09).dsk.active ∧ readyDrive (rowNext 8 0x09) = none)
      ∧ ((diskAt 0x8004 4 0x0400 0x4489).dmaOn 4 ∧ (diskAt 0x8004 4 0x0400 0x4489).dsk.active
        ∧ readyDrive (diskAt 0x8004 4 0x0400 0x4489) = some 0 ∧ (diskAt 0x8004 4 0x0400 0x4489).dsk.len.getLsbD 14 = false
        ∧ (diskAt 0x8004 4 0x0400 0x4489).adkcon.getLsbD 10 ∧ (diskAt 0x8004 4 0x0400 0x4489).dsk.synced = false)
      ∧ ((diskAt 0x8004 1 0 0x1234).adkcon.getLsbD 10 = false ∧ dmaInRange (diskAt 0x8004 1 0 0x1234) 0x4000
        ∧ Mem.wf (diskAt 0x8004 1 0 0x1234).mem)
      ∧ ((diskAt 0xC004 1 0 0x1234).dsk.len.getLsbD 14 ∧ readyDrive (diskAt 0xC004 1 0 0x1234) = some 0)
      ∧ ptrFits 0x4000 2 :=
  ⟨by decide +kernel, by decide +kernel, by decide +kernel, by decide +kernel, by decide +kernel, fits_of (by decide)⟩

/-- After reset, sprite 7 in DMA state `st` with its pointer at `p`, sprite DMA on. -/
def sprAt (st : SprDmaState) (p : Long) : State :=
  { State.reset with dmacon := 0x0220, spr := State.reset.spr.set 7 { Sprite.initial with dma := st, pt := p } }

theorem wit_SpriteRowFetchesOneWord :
    ((sprAt .fetchCtl 0x7FFFE).dmaOn 5 ∧ (sprAt .fetchCtl 0x7FFFE).spr[(7 : Fin 8)].dma ≠ .idle
        ∧ (sprAt .fetchData 0x7FFFE).spr[(7 : Fin 8)].dma ≠ .idle
        ∧ dmaInRange (sprAt .fetchCtl 0x7FFFE) (sprAt .fetchCtl 0x7FFFE).spr[(7 : Fin 8)].pt)
      ∧ ptrFits 0x7FFFE 2
      ∧ (State.reset.dmaOn 5 = false ∧ (sprAt .idle 0).spr[(7 : Fin 8)].dma = .idle)
      ∧ dmaInRange (sprAt .fetchData 0x80000) (sprAt .fetchData 0x80000).spr[(7 : Fin 8)].pt = false :=
  ⟨by decide +kernel, fits_of (by decide), by decide +kernel, by decide +kernel⟩

/-- V-BPL-1 at colclock 0xD7 of line 0x40, where plane 1's last word of the line is fetched. -/
def bplAt : State :=
  { State.reset with
    dmacon := 0x0300
    beam := ⟨0x1AE, 0x40, false⟩
    bpl := { Bitplane.initial with
      con0 := 0x1000, mod1 := 4, pt := #v[0x10026, 0, 0, 0, 0, 0], diwstrt := 0x2C81, diwstop := 0x2CC1
      ddfstrt := 0x38, ddfstop := 0xD0, ddfOpen := true, ddfPos := 7, ddfLast := true } }

theorem wit_BitplaneTurnFetchesTheScheduledPlane :
    wantedPlane State.reset = none
      ∧ (vdiwOpen bplAt ∧ bplAt.dmaOn 8 ∧ bplAt.bpl.ddfOpen
        ∧ (bplAt.cfg.schedLores.toList.getD (bplAt.bpl.ddfPos.toNat % 8) 0).val = (0 : Fin 6).val + 1
        ∧ bplAt.bpl.con0.toNat / 4096 % 8 = 1 ∧ bplAt.bpl.con0.getLsbD 15 = false ∧ bplAt.bpl.ddfLast)
      ∧ (dmaInRange bplAt bplAt.bpl.pt[(0 : Fin 6)] ∧ bplAt.bpl.pt[(0 : Fin 6)] = 0x10026 ∧ bplAt.bpl.mod1.toInt = 4)
      ∧ ptrFits 0x10026 2 ∧ ptrFits 0x10028 4 :=
  ⟨by decide +kernel, by decide +kernel, by decide +kernel, fits_of (by decide), fits_of (by decide)⟩

/-- At the colclock where the fetch window opens (R166), and in its last unit where a new unit would start. -/
def ddfAt (opened : Bool) (pos : Byte) (last : Bool) : State :=
  { State.reset with
    beam := ⟨0x70, 0x40, false⟩
    bpl := { Bitplane.initial with ddfstrt := 0x38, ddfstop := 0xD0, ddfOpen := opened, ddfPos := pos, ddfLast := last } }

theorem wit_FetchWindowMoves :
    (housekeeping (ddfAt false 0 false)).bpl.ddfOpen
      ∧ ((housekeeping (ddfAt true 5 false)).bpl.ddfPos = 6 ∧ (housekeeping (ddfAt true 5 false)).bpl.ddfOpen)
      ∧ (housekeeping (ddfAt true 7 true)).bpl.ddfOpen = false
      ∧ (housekeeping { ddfAt true 7 false with beam := ⟨0x1A0, 0x40, false⟩ }).bpl.ddfLast := by decide +kernel

/-- A latch due for the odd planes, and sprite 0 armed at the beam. -/
def pipeAt : State :=
  { State.reset with
    bpl := { Bitplane.initial with pendingOdd := true, pendingEven := true, dueEven := 3 }
    spr := State.reset.spr.set 0 { Sprite.initial with armed := true, data := 0x8000 } }

theorem wit_DisplayPipelineShiftsAndLatches :
    (pipeAt.bpl.pendingOdd ∧ pipeAt.bpl.dueOdd = 0 ∧ pipeAt.bpl.pendingEven ∧ pipeAt.bpl.dueEven ≠ 0)
      ∧ (playfield pipeAt)[0]? = some 0
      ∧ (pipeAt.spr[(0 : Fin 8)].armed ∧ pipeAt.beam.hpos.toNat =
        2 * (pipeAt.spr[(0 : Fin 8)].pos.toNat % 256) + pipeAt.spr[(0 : Fin 8)].ctl.toNat % 2)
      ∧ (pipeAt.spr[(1 : Fin 8)].armed = false ∧ pipeAt.spr[(1 : Fin 8)].active = false)
      ∧ nextIs (regWriteReg (.bpldat 0) 0x8000 { pipeAt with bpl := { pipeAt.bpl with con1 := 0x21 } })
        (fun u => u.bpl.dueOdd == 1 && u.bpl.dueEven == 2) := by decide +kernel

theorem wit_PixelsTakeTheColourOfTheFrontLayer :
    ([(5 : BitVec 6)][0]? = some 5
        ∧ (pixelOutput (Vector.replicate 8 0) [5] bplAt).out.pixels[0]? = some ⟨0x40, 0x1AE, 0, 0xFF000000⟩)
      ∧ (vdiwOpen bplAt ∧ hdiwOpen bplAt ∧ ∀ n : Fin 8, (Vector.replicate 8 (0 : BitVec 2))[n] = 0)
      ∧ hdiwOpen State.reset = true ∧ vdiwOpen { State.reset with beam := ⟨0, 256, false⟩ } = false
      ∧ (((Vector.replicate 8 (0 : BitVec 2)).set 2 2)[(2 : Fin 8)] ≠ 0
        ∧ ∀ j : Fin 8, j < 2 → ((Vector.replicate 8 (0 : BitVec 2)).set 2 2)[j] = 0) := by decide +kernel

theorem wit_AreaRowFetchesItsChannel :
    (areaModeOf (.bltArea 0 0 false false) = some ⟨0, false, false, false, false⟩ ∧ BltChan.a ≠ .d
        ∧ (areaPattern (bltAt 0x09F0 0 0 2 1) ⟨0, false, false, false, false⟩)[(bltAt 0x09F0 0 0 2 1).blt.phase.toNat]? = some .a)
      ∧ (areaModeOf (.bltFillInclusive 0 0 false true) = some ⟨0, false, true, false, true⟩
        ∧ (areaPattern (bltAt 0x0FF0 0xA 1 1 1) ⟨0, false, true, false, true⟩)[(1 : BitVec 4).toNat]? = some .b
        ∧ (areaPattern (bltAt 0x0FF0 0xA 2 1 1) ⟨0, false, true, false, true⟩)[(2 : BitVec 4).toNat]? = some .c)
      ∧ areaModeOf (.bltFillExclusive 0 0 true false true) = some ⟨0, true, true, false, true⟩
      ∧ (busOk (bltAt 0x09F0 0 0 2 1) ∧ busOk { bltAt 0x09F0 0 0 2 1 with cpuBlock := 3 } = false
        ∧ dmaInRange (bltAt 0x09F0 0 0 2 1) ((bltAt 0x09F0 0 0 2 1).blt.pt .a))
      ∧ ptrFits 0x1000 2 ∧ ptrFits 0x1002 0 ∧ ptrFits 0x1000 (-2) :=
  ⟨by decide +kernel, by decide +kernel, by decide +kernel, by decide +kernel, fits_of (by decide), fits_of (by decide),
    fits_of (by decide)⟩

theorem wit_AreaRowWritesThePendingWordOrIdles :
    ((areaPattern (bltAt 0x09F0 0 1 1 1) ⟨0, false, false, false, false⟩)[(1 : BitVec 4).toNat]? = some .d
        ∧ { (bltAt 0x09F0 0 1 1 1).blt with dpending := true }.dpending ∧ (bltAt 0x09F0 0 1 1 1).blt.dpending = false
        ∧ busOk (bltAt 0x09F0 0 1 1 1) ∧ dmaInRange (bltAt 0x09F0 0 1 1 1) (bltAt 0x09F0 0 1 1 1).blt.dpt
        ∧ Mem.wf (bltAt 0x09F0 0 1 1 1).mem)
      ∧ (areaPattern (bltAt 0 0 0 1 1) ⟨0, false, false, false, false⟩)[(0 : BitVec 4).toNat]? = some .idle
      ∧ ptrFits 0x2000 2 ∧ ptrFits 0x2002 0 :=
  ⟨by decide +kernel, by decide +kernel, fits_of (by decide), fits_of (by decide)⟩

theorem wit_LineRowFetchesAndDrawsTheDot :
    lineModeOf (.bltLine 3 0 true false false true true false) = some ⟨3, true, false, true, true, false⟩
      ∧ (List.range 4).map (fun ph => (bltAt 0x0BCA 0x304D (BitVec.ofNat 4 ph) 1 1).cfg.linePattern[ph]?) =
        [some .idle, some .c, some .idle, some .d]
      ∧ (busOk (bltAt 0x0BCA 0x304D 1 1 1) ∧ busOk { bltAt 0x0BCA 0x304D 1 1 1 with cpuBlock := 3 } = false
        ∧ dmaInRange (bltAt 0x0BCA 0x304D 1 1 1) (bltAt 0x0BCA 0x304D 1 1 1).blt.cpt
        ∧ dmaInRange (bltAt 0x0BCA 0x304D 3 1 1) (bltAt 0x0BCA 0x304D 3 1 1).blt.dpt
        ∧ Mem.wf (bltAt 0x0BCA 0x304D 3 1 1).mem)
      ∧ (65536 ≤ (bltAt 0x0BCA 0x304D 3 1 1).blt.cpt.toNat ∧ (bltAt 0x0BCA 0x304D 3 1 1).blt.cpt.toNat < 4294967296 - 65536) := by
  decide +kernel

theorem wit_LineStepMovesTheDotByItsOctant :
    65536 ≤ (bltAt 0xFBCA 0 3 1 1).blt.cpt.toNat ∧ (bltAt 0xFBCA 0 3 1 1).blt.cpt.toNat < 4294967296 - 65536 := by decide +kernel

/-- The last word of a blit waiting in `final`. -/
def finalAt (pending : Bool) : State :=
  { bltAt 0x09F0 0 0 2 1 with
    blt := { (bltAt 0x09F0 0 0 2 1).blt with st := .final, busy := false, ddat := 0x5678, dpending := pending, dlast := true } }

theorem wit_BlitterStartDelayAndFinalFlush :
    ((finalAt true).dmaOn 6 ∧ (finalAt true).blt.st = .final ∧ (finalAt true).blt.dpending ∧ (finalAt false).blt.dpending = false
        ∧ busOk (finalAt true) ∧ busOk { finalAt true with cpuBlock := 3 } = false
        ∧ dmaInRange (finalAt true) (finalAt true).blt.dpt ∧ Mem.wf (finalAt true).mem)
      ∧ ptrFits 0x2000 2 ∧ ptrFits 0x2002 0
      ∧ (State.reset.blt.st = .stopped ∧ State.reset.cfg.bltStartDelay.toNat = 2
        ∧ nextIs (regWriteReg .bltsize 0x0041 State.reset) fun u => u.blt.st == .starting && u.blt.startCount == 2) :=
  ⟨by decide +kernel, fits_of (by decide), fits_of (by decide), by decide +kernel⟩

theorem wit_DelayedRequestsArriveWhenTheirCountEnds :
    (10 : Byte) ≠ 0 ∧ State.reset.irq.countdown[(6 : Fin 14)] = 0
      ∧ { State.reset.irq with countdown := State.reset.irq.countdown.set 6 7 }.countdown[(6 : Fin 14)] ≠ 0
      ∧ 10 ≤ (10 : Byte).toNat := by decide +kernel

/-- V-IRQ-5: bits 1, 6 and 7 pending and enabled. -/
def irqAt : Irq := { State.reset.irq with intena := 0x40C2, intreq := 0x00C2 }

theorem wit_LevelIsTheMaximumAndArrivesAfterTheLatency :
    State.reset.irq.intena.getLsbD 14 = false ∧ irqAt.intena.getLsbD 14
      ∧ (irqAt.intena.getLsbD (7 : Fin 14) ∧ irqAt.intreq.getLsbD (7 : Fin 14))
      ∧ irqLevel Config.default irqAt ≠ irqAt.iplTarget
      ∧ (0 < Config.default.iplLatency.toNat ∧ 2 = Config.default.iplLatency.toNat) := by decide +kernel

/-- V-CIA-2: timer A of instance A running. -/
def timerAt : Cia := { Cia.initial with cra := 1, ta := 2, taLatch := 2, icrMask := 1 }

theorem wit_CiaTimersFlagsAndLines :
    (timerAt.cra.getLsbD 0 ∧ timerAt.cra.getLsbD 5 = false ∧ 2 ≤ timerAt.ta.toNat ∧ 3 = timerAt.ta.toNat + 1)
      ∧ (State.reset.ciaDiv.toNat < 10 ∧ State.reset.ciaDiv.toNat ≠ 9 ∧ ∃ t, tick false State.reset = .next t)
      ∧ nextIs (tick false { State.reset with ciaDiv := 9, ciaA := { timerAt with ta := 0 } }) (fun t => t.ciaA.irq)
      ∧ ({ Cia.initial with crb := 1, tb := 2 }.crb.getLsbD 0 ∧ { Cia.initial with crb := 1, tb := 2 }.crb.toNat / 32 % 4 = 0
        ∧ { timerAt with ta := 0, crb := 0x41, tb := 0 }.timerTick.icrData = 3)
      ∧ { Cia.initial with tod := 0xFFFFFF }.todPulse.icrData = 4 :=
  ⟨by decide +kernel, ⟨by decide +kernel, by decide +kernel, next_of (by decide +kernel)⟩, by decide +kernel, by decide +kernel,
    by decide +kernel⟩

theorem wit_DrivesFollowTheirControlLines :
    (State.reset.cfg.numDrives ≤ (1 : Fin 4).val ∧ (0 : Fin 4).val < State.reset.cfg.numDrives)
      ∧ (driveControl 0x77 0x73 { diskAt 0x8004 4 0 0 with drives := (diskAt 0x8004 4 0 0).drives.set 0 { readyDrive0 with side := false } }).dsk.bufValid
          = false
      ∧ (driveControl 0x77 0x75 (diskAt 0x8004 4 0 0)).dsk.bufValid := by decide +kernel

/-- R291, R293, R355: CIA B's pins go from 0x77 to 0x74, which steps drive 0 to cylinder 1
(direction line 0), and stay at 0x77, which only stores. -/
theorem wit_CiaPortsDriveTheLines :
    driveLines (diskAt 0x8004 4 0 0) = 0x77
      ∧ nextIs (hostCall (.ciaWrite .b 1 0x74) (diskAt 0x8004 4 0 0))
        (fun t => t.drives[(0 : Fin 4)].cyl == 1 && !t.drives[(0 : Fin 4)].side && !t.dsk.bufValid)
      ∧ nextIs (hostCall (.ciaWrite .b 1 0x77) (diskAt 0x8004 4 0 0)) (fun t => t.dsk.bufValid)
      ∧ nextIs (hostCall (.ciaRead .b 1) (diskAt 0x8004 4 0 0)) (fun t => t.out.reply == some 0x77) := by decide +kernel

/-- R295, R358: the countdown of the selected, turning drive ends. -/
theorem wit_IndexPulse :
    driveSelected (diskAt 0x8004 4 0 0) 0
      ∧ nextIs (tick false { diskAt 0x8004 4 0 0 with
          drives := (diskAt 0x8004 4 0 0).drives.set 0 { readyDrive0 with index := 1 } })
        (fun t => t.ciaB.icrData == 0x10 && t.drives[(0 : Fin 4)].index == 100000)
      ∧ nextIs (tick false (diskAt 0x8004 4 0 0)) (fun t => t.ciaB.icrData == 0) := by decide +kernel

theorem wit_TrackDecodesToTheSectorsEncoded :
    Config.default.wf ∧ (79 : Nat) ≤ 79 ∧ (1 : Nat) ≤ 1 ∧ (List.replicate 11 (List.replicate 128 (0 : Long))).length = 11
      ∧ ∀ sec ∈ List.replicate 11 (List.replicate 128 (0 : Long)), sec.length = 128 :=
  ⟨default_wf, by decide, by decide, by simp, fun sec h => by rw [List.eq_of_mem_replicate h, List.length_replicate]⟩

theorem wit_ResetZeroesTheChipAndKeepsMemoryAndMedia : ∃ t, hostCall .reset (diskAt 0x8004 4 0 0) = .next t :=
  next_of (by decide +kernel)

theorem wit_StepKeepsMemoriesCanonical :
    linS0.cfg.wf ∧ DiskInv linS0 ∧ MemoryInv linS0 ∧ ∃ t, step linS0 = .next t :=
  ⟨default_wf, ⟨by decide +kernel, by decide +kernel, by decide +kernel⟩,
    ⟨by decide +kernel, by decide +kernel, by decide +kernel, by decide +kernel, by decide +kernel, by decide +kernel,
      by decide +kernel, by decide +kernel⟩, next_of (by decide +kernel)⟩

theorem wit_StepKeepsBeamCopperAndBlitterInOrder :
    linS0.cfg.wf ∧ BeamInv linS0 ∧ CopperInv linS0 ∧ BlitterInv linS0 ∧ ∃ t, step linS0 = .next t :=
  ⟨default_wf, ⟨by decide +kernel, by decide +kernel⟩, ⟨by decide +kernel, fun h => absurd h (by decide +kernel)⟩,
    ⟨by decide +kernel, fun _ => ⟨by decide +kernel, by decide +kernel, by decide +kernel, by decide +kernel, by decide +kernel,
      by decide +kernel⟩⟩, next_of (by decide +kernel)⟩

theorem wit_StepKeepsControlAudioDiskDriveAndCiaBounds :
    linS0.cfg.wf ∧ (∃ t, step linS0 = .next t) ∧ ControlInv linS0 ∧ AudioInv linS0 ∧ DiskInv linS0 ∧ DriveInv linS0 ∧ CiaInv linS0 :=
  ⟨default_wf, next_of (by decide +kernel), ⟨by decide +kernel, by decide +kernel, by decide +kernel⟩,
    ⟨by decide +kernel, by decide +kernel⟩, ⟨by decide +kernel, by decide +kernel, by decide +kernel⟩,
    ⟨by decide +kernel, by decide +kernel, by decide +kernel⟩,
    ⟨by decide +kernel, by decide +kernel, by decide +kernel, by decide +kernel, by decide +kernel⟩⟩

end Sys2Proof.Tests
end

section
/-! Outcomes in general: what an outcome ends in, with one rule per shared operation, so that a proof about a turn follows the
turn's own sequence of reads, pointer sums and writes. -/

namespace Sys2Proof.Machine

/-- Every next state of the outcome has `P`, and it is the fault `unreachableCycleEntry` only under `u`. -/
inductive Ends (u : Prop) (P : State → Prop) : Result → Prop
  | next {t : State} (h : P t) : Ends u P (.next t)
  | fault {e : Fault} (h : e = .unreachableCycleEntry → u) : Ends u P (.fault e)
  | refused (e : Refusal) : Ends u P (.refused e)

section
variable {u v : Prop} {P Q : State → Prop}

theorem Ends.of_next {t : State} (h : Ends u P (.next t)) : P t := by
  cases h
  assumption

theorem Ends.of_unreachable (h : Ends u P (.fault .unreachableCycleEntry)) : u := by
  cases h with
  | fault h => exact h rfl

theorem Ends.mono {r : Result} (h : Ends u P r) (hu : u → v) (hP : ∀ t, P t → Q t) : Ends v Q r := by
  cases h with
  | next h => exact .next (hP _ h)
  | fault h => exact .fault (hu ∘ h)
  | refused e => exact .refused e

theorem Ends.andThen {r : Result} {f : State → Result} (h : Ends u P r) (hf : ∀ t, P t → Ends u Q (f t)) :
    Ends u Q (andThen r f) := by
  cases h with
  | next h => exact hf _ h
  | fault h => exact .fault h
  | refused e => exact .refused e

/-- A DMA read goes on with some word, or faults on its address (R63). -/
theorem Ends.withMemRead {s : State} {p : Long} {k : Word → Result} (h : ∀ w, Ends u P (k w)) :
    Ends u P (withMemRead s p k) := by
  unfold Machine.withMemRead
  split
  · exact h _
  · exact .fault fun he => nomatch he

/-- A pointer sum goes on with some pointer, or faults on the sum (R80). -/
theorem Ends.withPtrAdd {p : Long} {d : Int} {k : Long → Result} (h : ∀ a, Ends u P (k a)) : Ends u P (withPtrAdd p d k) := by
  unfold Machine.withPtrAdd
  split
  · exact h _
  · exact .fault fun he => nomatch he

/-- A DMA write replaces chip memory, or faults on its address (R63). -/
theorem Ends.memWrite {s : State} {p : Long} {w : Word} (h : ∀ m, P (s.withMem m)) : Ends u P (memWrite s p w) := by
  unfold Machine.memWrite
  split
  · exact .next (h _)
  · exact .fault fun he => nomatch he

end

end Sys2Proof.Machine
end

section
/-! The conditions of Safety.lean, block by block: each invariant as a condition on the blocks of the state it speaks of, and
what the constraints on the parameters (R4) give. -/

namespace Sys2Proof

/-! ### The parameters -/

theorem Config.wf_beam {k : Config} (h : k.wf) :
    454 ≤ k.lineTicks ∧ k.lineTicks ≤ 65536 ∧ k.linesLong = k.linesShort + 1 ∧ 1 ≤ k.linesShort ∧ k.linesLong ≤ 65535 := by
  simp only [Config.wf, Config.sizesOk, Bool.and_eq_true, decide_eq_true_eq, beq_iff_eq] at h
  omega

theorem Config.line_nonempty {k : Config} (h : k.wf) : 0 < k.lineTicks :=
  Nat.lt_of_lt_of_le (by decide) (Config.wf_beam h).1

theorem Config.wf_track {k : Config} (h : k.wf) :
    k.mfmTrackBytes % 2 = 0 ∧ 0 < k.mfmTrackBytes ∧ k.mfmTrackBytes ≤ 65536 := by
  simp only [Config.wf, Config.sizesOk, Bool.and_eq_true, decide_eq_true_eq, beq_iff_eq] at h
  simp only [sectorsPerTrack, sectorMfmBytes] at h
  omega

theorem Config.wf_revolution {k : Config} (h : k.wf) : 1 ≤ k.revolutionTicks.toNat := by
  simp only [Config.wf, Config.sizesOk, Bool.and_eq_true, bne_iff_ne] at h
  obtain ⟨⟨⟨⟨-, hne⟩, -⟩, -⟩, -⟩ := h
  have : k.revolutionTicks.toNat ≠ 0 := fun h0 => hne (BitVec.eq_of_toNat_eq h0)
  omega

theorem Config.wf_iplTable {k : Config} (h : k.wf) (b : Fin 14) : k.iplTable[b].toNat ≤ 6 := by
  simp only [Config.wf, Config.tablesOk, Bool.and_eq_true, List.all_eq_true, decide_eq_true_eq] at h
  obtain ⟨⟨⟨-, ⟨⟨⟨⟨⟨-, htab⟩, -⟩, -⟩, -⟩, -⟩⟩, -⟩, -⟩ := h
  exact (htab _ (Vector.mem_toList_iff.2 (Vector.getElem_mem b.isLt))).2

/-- Every pattern the blitter can have is one its four-bit phase can run through (R102). -/
theorem Config.wf_cycleTable {k : Config} (h : k.wf) (i : Fin 32) :
    0 < k.cycleTable[i].length ∧ k.cycleTable[i].length ≤ 16 := by
  simp only [Config.wf, Config.cycleTableOk, Bool.and_eq_true, List.all_eq_true, List.mem_range] at h
  obtain ⟨⟨-, htab⟩, -⟩ := h
  have hrow := htab i.val i.isLt
  simp only [cycleOk, Bool.and_eq_true, decide_eq_true_eq, Bool.not_eq_true', List.isEmpty_eq_false_iff] at hrow
  obtain ⟨⟨⟨⟨⟨hne, hlen⟩, -⟩, -⟩, -⟩, -⟩ := hrow
  have hget : k.cycleTable.toList.getD i.val [] = k.cycleTable[i] := by simp [List.getD]
  rw [hget] at hne hlen
  exact ⟨List.length_pos_iff.2 hne, hlen⟩

theorem Config.wf_linePattern {k : Config} (h : k.wf) : 0 < k.linePattern.length ∧ k.linePattern.length ≤ 16 := by
  simp only [Config.wf, Config.tablesOk, Bool.and_eq_true, decide_eq_true_eq, Bool.not_eq_true',
    List.isEmpty_eq_false_iff] at h
  obtain ⟨⟨⟨-, ⟨⟨⟨⟨-, hne⟩, hlen⟩, -⟩, -⟩⟩, -⟩, -⟩ := h
  exact ⟨List.length_pos_iff.2 hne, hlen⟩

/-- Lines of a long or a short field (`Machine.fieldLines_eq`). -/
def Config.lines (k : Config) (lof : Bool) : Nat := if lof then k.linesLong else k.linesShort

/-- A field has a first line, and its lines are numbered by words (R4, R13). -/
theorem Config.lines_bounds {k : Config} (h : k.wf) (lof : Bool) : 1 ≤ k.lines lof ∧ k.lines lof ≤ 65535 := by
  obtain ⟨-, -, hlong, hshort, hmax⟩ := Config.wf_beam h
  unfold Config.lines
  split <;> omega

end Sys2Proof

namespace Sys2Proof.Machine

/-! ### The blocks -/

/-- The beam lies inside the line and the field (`beamInv_iff`). -/
def BeamOk (k : Config) (b : Beam) : Prop := b.hpos.toNat < k.lineTicks ∧ b.vpos.toNat < k.lines b.lof

/-- The copper's latch and skip mark are what its state allows (`copperInv_iff`). -/
def CopperOk (c : Copper) : Prop := copperLatchOk c ∧ (c.skipNext → c.st = .readInst)

/-- The pattern that the control registers of a blitter select (`bltPattern_eq`). -/
def Blitter.pattern (k : Config) (b : Blitter) : List BltPhase :=
  if bltLineBit b.con1 then k.linePattern
  else k.cycleTable[cycleIndex (useA b.con0) (useB b.con0) (useC b.con0) (useD b.con0) (b.con1.getLsbD 4 || b.con1.getLsbD 3)]

/-- The sequencer of a blit in progress is in order. -/
structure SequencerOk (k : Config) (b : Blitter) : Prop where
  phaseLt : b.phase.toNat < (b.pattern k).length
  wPos : 1 ≤ b.w.toNat
  wLe : b.w.toNat ≤ b.width.toNat
  widthLe : b.width.toNat ≤ 64
  hPos : 1 ≤ b.h.toNat
  hLe : b.h.toNat ≤ 1024

/-- The busy flag says that a blit is in progress, and its sequencer is in order (`blitterInv_iff`). -/
def BlitterOk (k : Config) (b : Blitter) : Prop :=
  b.busy = (b.st == .starting || b.st == .running) ∧ (b.busy → SequencerOk k b)

/-- The two interrupt levels are 0 .. 6 (`controlInv_iff`). -/
def LevelsOk (q : Irq) : Prop := q.iplCurrent.toNat ≤ 6 ∧ q.iplTarget.toNat ≤ 6

/-- `dmacon` has no bit above its eleven (`controlInv_iff`). -/
def DmaconOk (v : Word) : Prop := v &&& 0xF800 = 0

/-- A channel's volume is at most 64, and it asks for nothing when inactive (`audioInv_iff`). -/
def ChanOk (c : AudioChan) : Prop := c.vol.toNat ≤ 64 ∧ (c.st = .inactive → c.dmareq = false)

/-- The head stands at an even offset of the buffer, and an active transfer has words left (`diskInv_iff`). -/
def DiskOk (k : Config) (d : Disk) : Prop :=
  (d.bufPos.toNat < k.mfmTrackBytes ∧ d.bufPos.toNat % 2 = 0) ∧ (d.active → d.remaining ≠ 0)

/-- A drive's head and its index countdown are in range (`driveInv_iff`). -/
def DriveOk (k : Config) (v : Drive) : Prop :=
  v.cyl.toNat ≤ k.maxCylinder.toNat ∧ 1 ≤ v.index.toNat ∧ v.index.toNat ≤ k.revolutionTicks.toNat

/-- No control register of a CIA keeps its load strobe (`ciaInv_iff`). -/
def CiaOk (c : Cia) : Prop := c.cra.getLsbD 4 = false ∧ c.crb.getLsbD 4 = false

theorem fieldLines_eq (s : State) : fieldLines s = s.cfg.lines s.beam.lof := rfl

theorem beamInv_iff {s : State} : BeamInv s ↔ BeamOk s.cfg s.beam :=
  ⟨fun ⟨hh, hv⟩ => ⟨hh, hv⟩, fun ⟨hh, hv⟩ => ⟨hh, hv⟩⟩

theorem copperInv_iff {s : State} : CopperInv s ↔ CopperOk s.cop :=
  ⟨fun ⟨hl, hs⟩ => ⟨hl, hs⟩, fun ⟨hl, hs⟩ => ⟨hl, hs⟩⟩

theorem bltPattern_eq (s : State) : bltPattern s = s.blt.pattern s.cfg := rfl

theorem blitterInv_iff {s : State} : BlitterInv s ↔ BlitterOk s.cfg s.blt :=
  ⟨fun ⟨hb, hp⟩ => ⟨hb, fun h => let ⟨h1, h2, h3, h4, h5, h6⟩ := hp h; ⟨h1, h2, h3, h4, h5, h6⟩⟩,
    fun ⟨hb, hp⟩ => ⟨hb, fun h => let ⟨h1, h2, h3, h4, h5, h6⟩ := hp h; ⟨h1, h2, h3, h4, h5, h6⟩⟩⟩

theorem controlInv_iff {s : State} : ControlInv s ↔ LevelsOk s.irq ∧ DmaconOk s.dmacon :=
  ⟨fun ⟨hc, ht, hd⟩ => ⟨⟨hc, ht⟩, hd⟩, fun ⟨⟨hc, ht⟩, hd⟩ => ⟨hc, ht, hd⟩⟩

theorem audioInv_iff {s : State} : AudioInv s ↔ ∀ n : Fin 4, ChanOk s.aud[n] :=
  ⟨fun ⟨hv, hq⟩ n => ⟨hv n, hq n⟩, fun h => ⟨fun n => (h n).1, fun n => (h n).2⟩⟩

theorem diskInv_iff {s : State} : DiskInv s ↔ DiskOk s.cfg s.dsk :=
  ⟨fun ⟨hp, he, hl⟩ => ⟨⟨hp, he⟩, hl⟩, fun ⟨⟨hp, he⟩, hl⟩ => ⟨hp, he, hl⟩⟩

theorem driveInv_iff {s : State} : DriveInv s ↔ ∀ d : Fin 4, DriveOk s.cfg s.drives[d] :=
  ⟨fun ⟨hc, hp, hl⟩ d => ⟨hc d, hp d, hl d⟩,
    fun h => ⟨fun d => (h d).1, fun d => (h d).2.1, fun d => (h d).2.2⟩⟩

theorem ciaInv_iff {s : State} : CiaInv s ↔ s.ciaDiv.toNat < 10 ∧ CiaOk s.ciaA ∧ CiaOk s.ciaB :=
  ⟨fun ⟨hd, h1, h2, h3, h4⟩ => ⟨hd, ⟨h1, h2⟩, h3, h4⟩, fun ⟨hd, ⟨h1, h2⟩, h3, h4⟩ => ⟨hd, h1, h2, h3, h4⟩⟩

theorem Blitter.pattern_length {k : Config} (h : k.wf) (b : Blitter) :
    0 < (b.pattern k).length ∧ (b.pattern k).length ≤ 16 := by
  unfold Blitter.pattern
  split
  · exact Config.wf_linePattern h
  · exact Config.wf_cycleTable h _

end Sys2Proof.Machine
end

section
/-! The relation that every part of a step satisfies: `Kept s t`, each block in order in `s` is in order in `t`. One rule per
block replaced; the operations that several turns share. -/

namespace Sys2Proof.Machine

/-- The parameters are the same, and each block that is in order in `s` is in order in `t`. -/
structure Kept (s t : State) : Prop where
  cfg : t.cfg = s.cfg
  beam : s.cfg.wf → BeamOk s.cfg s.beam → BeamOk s.cfg t.beam
  copper : CopperOk s.cop → CopperOk t.cop
  blitter : s.cfg.wf → BlitterOk s.cfg s.blt → BlitterOk s.cfg t.blt
  levels : s.cfg.wf → LevelsOk s.irq → LevelsOk t.irq
  dmacon : DmaconOk s.dmacon → DmaconOk t.dmacon
  audio : ∀ n : Fin 4, ChanOk s.aud[n] → ChanOk t.aud[n]
  disk : s.cfg.wf → DiskOk s.cfg s.dsk → DiskOk s.cfg t.dsk
  drives : s.cfg.wf → ∀ d : Fin 4, DriveOk s.cfg s.drives[d] → DriveOk s.cfg t.drives[d]
  ciaDiv : s.ciaDiv.toNat < 10 → t.ciaDiv.toNat < 10
  ciaA : CiaOk s.ciaA → CiaOk t.ciaA
  ciaB : CiaOk s.ciaB → CiaOk t.ciaB

theorem Kept.refl (s : State) : Kept s s where
  cfg := rfl
  beam := fun _ h => h
  copper := id
  blitter := fun _ h => h
  levels := fun _ h => h
  dmacon := id
  audio := fun _ h => h
  disk := fun _ h => h
  drives := fun _ _ h => h
  ciaDiv := id
  ciaA := id
  ciaB := id

theorem Kept.trans {s u t : State} (h : Kept s u) (k : Kept u t) : Kept s t := by
  have hc := h.cfg
  refine ⟨k.cfg.trans hc, ?_, k.copper ∘ h.copper, ?_, ?_, k.dmacon ∘ h.dmacon, fun n => k.audio n ∘ h.audio n, ?_, ?_,
    k.ciaDiv ∘ h.ciaDiv, k.ciaA ∘ h.ciaA, k.ciaB ∘ h.ciaB⟩
  · exact fun hk hs => hc ▸ k.beam (hc ▸ hk) (hc ▸ h.beam hk hs)
  · exact fun hk hs => hc ▸ k.blitter (hc ▸ hk) (hc ▸ h.blitter hk hs)
  · exact fun hk hs => k.levels (hc ▸ hk) (h.levels hk hs)
  · exact fun hk hs => hc ▸ k.disk (hc ▸ hk) (hc ▸ h.disk hk hs)
  · exact fun hk d hs => hc ▸ k.drives (hc ▸ hk) d (hc ▸ h.drives hk d hs)

/-! ### One rule per block -/

section
variable {s u : State} (h : Kept s u)
include h

theorem Kept.withMem (x : Memory) : Kept s (u.withMem x) := h.trans { Kept.refl u with }
theorem Kept.withCpuBlock (x : BitVec 2) : Kept s (u.withCpuBlock x) := h.trans { Kept.refl u with }
theorem Kept.withBpl (x : Bitplane) : Kept s (u.withBpl x) := h.trans { Kept.refl u with }
theorem Kept.withColor (x : Vector (BitVec 12) 32) : Kept s (u.withColor x) := h.trans { Kept.refl u with }
theorem Kept.withSpr (x : Vector Sprite 8) : Kept s (u.withSpr x) := h.trans { Kept.refl u with }
theorem Kept.withAdkcon (x : BitVec 15) : Kept s (u.withAdkcon x) := h.trans { Kept.refl u with }
theorem Kept.withHost (x : List HostOp) : Kept s (u.withHost x) := h.trans { Kept.refl u with }
theorem Kept.withOut (x : StepOut) : Kept s (u.withOut x) := h.trans { Kept.refl u with }
theorem Kept.withCpuGrant (x : Bool) : Kept s (u.withCpuGrant x) := h.trans { Kept.refl u with }

theorem Kept.withBeam {x : Beam} (hx : u.cfg.wf → BeamOk u.cfg u.beam → BeamOk u.cfg x) : Kept s (u.withBeam x) :=
  h.trans { Kept.refl u with beam := hx }

theorem Kept.withCop {x : Copper} (hx : CopperOk u.cop → CopperOk x) : Kept s (u.withCop x) :=
  h.trans { Kept.refl u with copper := hx }

theorem Kept.withBlt {x : Blitter} (hx : u.cfg.wf → BlitterOk u.cfg u.blt → BlitterOk u.cfg x) : Kept s (u.withBlt x) :=
  h.trans { Kept.refl u with blitter := hx }

theorem Kept.withIrq {x : Irq} (hx : u.cfg.wf → LevelsOk u.irq → LevelsOk x) : Kept s (u.withIrq x) :=
  h.trans { Kept.refl u with levels := hx }

theorem Kept.withDmacon {x : Word} (hx : DmaconOk u.dmacon → DmaconOk x) : Kept s (u.withDmacon x) :=
  h.trans { Kept.refl u with dmacon := hx }

theorem Kept.withAud {x : Vector AudioChan 4} (hx : ∀ n : Fin 4, ChanOk u.aud[n] → ChanOk x[n]) : Kept s (u.withAud x) :=
  h.trans { Kept.refl u with audio := hx }

theorem Kept.withDsk {x : Disk} (hx : u.cfg.wf → DiskOk u.cfg u.dsk → DiskOk u.cfg x) : Kept s (u.withDsk x) :=
  h.trans { Kept.refl u with disk := hx }

theorem Kept.withDrives {x : Vector Drive 4}
    (hx : u.cfg.wf → ∀ d : Fin 4, DriveOk u.cfg u.drives[d] → DriveOk u.cfg x[d]) : Kept s (u.withDrives x) :=
  h.trans { Kept.refl u with drives := hx }

theorem Kept.withCiaDiv {x : BitVec 4} (hx : u.ciaDiv.toNat < 10 → x.toNat < 10) : Kept s (u.withCiaDiv x) :=
  h.trans { Kept.refl u with ciaDiv := hx }

theorem Kept.withCiaA {x : Cia} (hx : CiaOk u.ciaA → CiaOk x) : Kept s (u.withCiaA x) :=
  h.trans { Kept.refl u with ciaA := hx }

theorem Kept.withCiaB {x : Cia} (hx : CiaOk u.ciaB → CiaOk x) : Kept s (u.withCiaB x) :=
  h.trans { Kept.refl u with ciaB := hx }

theorem Kept.setCia {i : CiaId} {x : Cia} (hx : CiaOk (u.cia i) → CiaOk x) : Kept s (u.setCia i x) := by
  cases i with
  | a => exact h.withCiaA hx
  | b => exact h.withCiaB hx

end

/-! ### Shared operations -/

theorem Irq.levelsOk_raise {q : Irq} (h : LevelsOk q) (b : Fin 14) (d : Byte) : LevelsOk (q.raise b d) := by
  unfold Irq.raise
  split
  · exact h
  · split <;> exact h

section
variable {s u : State} (h : Kept s u)
include h

theorem Kept.raiseIrq (b : Fin 14) (d : Byte) : Kept s (raiseIrq b d u) := h.withIrq fun _ hq => Irq.levelsOk_raise hq b d

theorem Kept.grant (o : BusOwner) (a : Long) (v : Word) : Kept s (grant o a v u) := h.withOut _

theorem Kept.mapSpr (n : Fin 8) (f : Sprite → Sprite) : Kept s (u.mapSpr n f) := h.withSpr _

theorem Kept.mapAud (n : Fin 4) {f : AudioChan → AudioChan} (hf : ∀ c, ChanOk c → ChanOk (f c)) : Kept s (u.mapAud n f) := by
  refine h.withAud fun m hm => ?_
  by_cases hnm : n = m
  · subst hnm
    simpa using hf _ hm
  · simpa [Vector.getElem_set, Fin.val_inj, hnm] using hm

/-- The end of a blit, whatever its registers hold by then (R221). -/
theorem Kept.enterFinal (b : Blitter) : Kept s (enterFinal (u.withBlt b)) := by
  have hfin : BlitterOk u.cfg { b with st := .final, busy := false } := ⟨rfl, fun hb => nomatch hb⟩
  exact (h.withBlt (x := { b with st := .final, busy := false }) fun _ _ => hfin).raiseIrq _ _

end

/-! ### Register fields -/

theorem getLsbD_setBit {w : Nat} (x : BitVec w) (i j : Nat) (b : Bool) (hj : j < w) :
    (setBit x i b).getLsbD j = if j = i then b else x.getLsbD j := by
  have hone : (1#w <<< i).getLsbD j = decide (j = i) := by
    rw [BitVec.getLsbD_shiftLeft, BitVec.getLsbD_one]
    by_cases hji : j = i
    · subst hji
      simp
      omega
    · simp [hji]
      omega
  unfold setBit
  split
  · rename_i hb
    rw [BitVec.getLsbD_or, hone, hb]
    by_cases hji : j = i <;> simp [hji]
  · rename_i hb
    rw [BitVec.getLsbD_and, BitVec.getLsbD_not, hone, Bool.eq_false_iff.2 hb]
    by_cases hji : j = i <;> simp [hji, hj]

end Sys2Proof.Machine
end

section
/-! Audio, disk, drives and CIAs: what each of their operations does to its own block, and the turns of the consumers with fixed
slots (R126 to R130). -/

namespace Sys2Proof.Machine

/-! ### Audio (R320 to R330) -/

theorem AudioChan.nextHalf_st (c : AudioChan) : c.nextHalf.st ≠ .inactive := by
  unfold AudioChan.nextHalf
  dsimp only
  split <;> exact fun he => nomatch he

theorem AudioChan.nextHalf_vol (c : AudioChan) : c.nextHalf.vol = c.vol := by
  unfold AudioChan.nextHalf
  dsimp only
  split <;> rfl

/-- A channel that is not inactive is in order with its volume in range. -/
theorem ChanOk.of_active {c : AudioChan} (hv : c.vol.toNat ≤ 64) (hs : c.st ≠ .inactive) : ChanOk c :=
  ⟨hv, fun he => absurd he hs⟩

theorem ChanOk.stop {c : AudioChan} (h : ChanOk c) : ChanOk c.stop := ⟨h.1, fun _ => rfl⟩

theorem ChanOk.nextHalf {c : AudioChan} (h : ChanOk c) : ChanOk c.nextHalf :=
  .of_active (by rw [c.nextHalf_vol]; exact h.1) c.nextHalf_st

theorem ChanOk.periodTick {c : AudioChan} (h : ChanOk c) (on : Bool) : ChanOk (c.periodTick on) := by
  unfold AudioChan.periodTick
  split
  · split
    · exact h
    · exact h.stop
  · split
    · exact .of_active h.1 fun he => nomatch he
    · exact h
    all_goals
      split
      · exact h.nextHalf
      · exact h

theorem ChanOk.firstWord {c : AudioChan} (h : ChanOk c) (w : Word) : ChanOk (c.firstWord w) := by
  unfold AudioChan.firstWord
  split
  · exact .of_active h.1 fun he => nomatch he
  · exact h

theorem ChanOk.fetched {c : AudioChan} (h : ChanOk c) (w : Word) (p : Long) : ChanOk (c.fetched w p) := by
  unfold AudioChan.fetched
  dsimp only
  refine ChanOk.firstWord ?_ w
  split <;> exact ⟨h.1, fun _ => rfl⟩

theorem ChanOk.mix {c : AudioChan} (h : ChanOk c) (k : Config) : ChanOk (c.mix k) := h

theorem volumeOf_le (v : Word) : (volumeOf v).toNat ≤ 64 := by
  unfold volumeOf
  split
  · rename_i hv
    exact Nat.le_of_lt hv
  · decide

section
variable {s u : State} (h : Kept s u)
include h

theorem Kept.audioPeriodTicks : Kept s (audioPeriodTicks u) :=
  h.withAud fun n hn => by simpa using hn.periodTick (audOn u n)

theorem Kept.audioStopDisabled : Kept s (audioStopDisabled u) := by
  refine h.withAud fun n hn => ?_
  simp only [Fin.getElem_fin, Vector.getElem_ofFn, Fin.eta]
  split
  · exact hn
  · exact hn.stop

theorem Kept.audioMixIfDue : Kept s (audioMixIfDue u) := by
  unfold Machine.audioMixIfDue
  split
  · refine (h.withAud fun n hn => ?_).withOut _
    simpa using hn.mix u.cfg
  · exact h

end

theorem audioTurnAt_ends (u : Prop) (n : Fin 4) (s : State) : Ends u (Kept s) (audioTurnAt n s) := by
  unfold audioTurnAt audioSlot
  split
  · refine .withMemRead fun w => .withPtrAdd fun p => .next ?_
    have hfetch : Kept s (s.mapAud n fun c => c.fetched w p) := (Kept.refl s).mapAud n fun c hc => hc.fetched w p
    have hgrant := hfetch.grant .audio s.aud[n].ptr w
    split
    · exact hgrant.raiseIrq _ _
    · exact hgrant
  · exact .next (.refl s)

/-! ### Drives (R290 to R297) -/

theorem DriveOk.motorCommand {k : Config} {v : Drive} (h : DriveOk k v) (on : Bool) : DriveOk k (v.motorCommand k on) := by
  unfold Drive.motorCommand
  split <;> exact h

/-- The head stops at cylinder 0 and at the last one (R293). -/
theorem DriveOk.headStep {k : Config} {v : Drive} (h : DriveOk k v) : DriveOk k (v.headStep k) := by
  obtain ⟨hcyl, hindex⟩ := h
  unfold Drive.headStep
  split
  · refine ⟨?_, hindex⟩
    dsimp only
    split
    · exact Nat.zero_le _
    · bv_omega
  · refine ⟨?_, hindex⟩
    dsimp only
    split
    · bv_omega
    · exact Nat.le_refl _

theorem DriveOk.control {k : Config} {v : Drive} (h : DriveOk k v) (old new : Byte) (sel : Nat) :
    DriveOk k (v.control k old new sel) := by
  unfold Drive.control
  extract_lets selOld selNew v1
  have hmotor : DriveOk k v1 := by
    unfold v1
    split
    · exact h.motorCommand _
    · exact h
  split
  · split
    · exact DriveOk.headStep (v := { v1 with side := !new.getLsbD 2, dir := new.getLsbD 1 }) hmotor
    · exact hmotor
  · exact hmotor

theorem DriveOk.tick {k : Config} {v : Drive} (hk : k.wf) (h : DriveOk k v) : DriveOk k (v.tick k) := by
  have hspin : DriveOk k v.spinDown := by
    unfold Drive.spinDown
    split <;> exact h
  obtain ⟨hc, h1, hr⟩ := hspin
  unfold Drive.tick
  dsimp only
  split
  · refine ⟨hc, ?_⟩
    dsimp only
    split
    · exact ⟨Config.wf_revolution hk, Nat.le_refl _⟩
    · bv_omega
  · exact ⟨hc, h1, hr⟩

/-- A flush changes at most the medium in the drive. -/
theorem flushToDrive_driveOk {k : Config} (d e : Fin 4) {s : State} (h : DriveOk k s.drives[e]) :
    DriveOk k (flushToDrive d s).drives[e] := by
  unfold flushToDrive
  dsimp only
  split
  · exact h
  · split
    · exact h
    · split
      · simp only [State.withDrives_drives, Fin.getElem_fin, Vector.getElem_set]
        split
        · rename_i hde
          obtain rfl := Fin.ext hde
          exact h
        · exact h
      · exact h

theorem diskWriteFlush_driveOk {k : Config} (e : Fin 4) {s : State} (h : DriveOk k s.drives[e]) :
    DriveOk k (diskWriteFlush s).drives[e] := by
  unfold diskWriteFlush
  dsimp only
  split
  · exact h
  · split
    · exact h
    · exact flushToDrive_driveOk _ e h

theorem diskWriteFlush_dsk (s : State) : (diskWriteFlush s).dsk = { s.dsk with bufValid := false } := by
  unfold diskWriteFlush
  dsimp only
  split
  · rfl
  · split
    · rfl
    · rw [flushToDrive_touches]
      rfl

section
variable {s u : State} (h : Kept s u)
include h

theorem Kept.setMedium (d : Fin 4) (m : Option Medium) : Kept s (setMedium d m u) := by
  refine (h.withDrives fun _ e he => ?_).withDsk fun _ hd => hd
  simp only [Fin.getElem_fin, Vector.getElem_set]
  split
  · rename_i hde
    obtain rfl := Fin.ext hde
    exact he
  · exact he

theorem Kept.driveControl (old new : Byte) : Kept s (driveControl old new u) := by
  refine (h.withDrives fun _ d hd => ?_).withDsk fun _ hd => hd
  simp only [Fin.getElem_fin, Vector.getElem_ofFn]
  split
  · exact hd.control _ _ _
  · exact hd

/-! ### Disk (R281 to R289) -/

theorem Kept.diskWriteFlush : Kept s (diskWriteFlush u) := by
  rw [diskWriteFlush_touches, diskWriteFlush_dsk]
  exact ((h.withDrives fun _ e he => diskWriteFlush_driveOk e he).withOut _).withDsk fun _ hd => hd

theorem Kept.writeDsklen (v : Word) : Kept s (writeDsklen v u) := by
  unfold Machine.writeDsklen
  split
  · exact h.withDsk fun _ hd => hd
  · rename_i hidle
    split
    · rename_i hsecond
      have hactive : u.dsk.active = false := by simp_all
      have hlen : Kept s (u.withDsk { u.dsk with len := v, remaining := v.extractLsb' 0 14, synced := false }) :=
        h.withDsk fun _ hd => ⟨hd.1, fun ha => by simp [hactive] at ha⟩
      dsimp only
      split
      · exact hlen.raiseIrq _ _
      · rename_i hne
        exact hlen.withDsk fun _ hd => ⟨hd.1, fun _ => hne⟩
    · dsimp only
      split
      · exact h.withDsk fun _ hd => hd
      · have hstop : ∀ w : State, Kept s w → Kept s (w.withDsk { w.dsk with active := false }) := fun w hw =>
          hw.withDsk fun _ hd => ⟨hd.1, fun ha => nomatch ha⟩
        refine Kept.withDsk (hstop _ ?_) fun _ hd => hd
        split
        · exact h.diskWriteFlush
        · exact h

theorem Kept.trackBufferLoad (d : Fin 4) : Kept s (trackBufferLoad d u) := by
  unfold Machine.trackBufferLoad
  split
  · exact h
  · refine h.withDsk fun hk ⟨⟨hlt, heven⟩, hleft⟩ => ⟨?_, hleft⟩
    have hpos : (BitVec.ofNat 16 (u.dsk.bufPos.toNat % u.cfg.mfmTrackBytes)) = u.dsk.bufPos := by
      rw [Nat.mod_eq_of_lt hlt, BitVec.ofNat_toNat, BitVec.setWidth_eq]
    exact ⟨by rw [hpos]; exact hlt, by rw [hpos]; exact heven⟩

theorem Kept.syncMatch : Kept s (syncMatch u) := (h.raiseIrq _ _).withDsk fun _ hd => hd

theorem Kept.dskbytHoldCountdown : Kept s (dskbytHoldCountdown u) := by
  unfold Machine.dskbytHoldCountdown
  split
  · exact h
  · exact h.withDsk fun _ hd => hd

end

/-- The head moved on by a word stays at an even offset of the buffer. -/
theorem diskAdvance_inBuffer {k : Config} (hk : k.wf) {pos : Word} (h : pos.toNat < k.mfmTrackBytes ∧ pos.toNat % 2 = 0) :
    (diskAdvance k pos).toNat < k.mfmTrackBytes ∧ (diskAdvance k pos).toNat % 2 = 0 := by
  obtain ⟨heven, hpos, hle⟩ := Config.wf_track hk
  have hlt := Nat.mod_lt (pos.toNat + 2) hpos
  have hto : (diskAdvance k pos).toNat = (pos.toNat + 2) % k.mfmTrackBytes := by
    rw [diskAdvance, BitVec.toNat_ofNat, Nat.mod_eq_of_lt (by omega)]
  rw [hto]
  refine ⟨hlt, ?_⟩
  rw [Nat.mod_mod_of_dvd _ (Nat.dvd_of_mod_eq_zero heven)]
  omega

section
variable {s u : State} (h : Kept s u)
include h

/-- The count of a transfer goes down, and with its last word the transfer is over. -/
theorem Kept.diskCountDown {flush : State → State} (hf : flush = id ∨ flush = Machine.diskWriteFlush) :
    Kept s (diskCountDown flush u) := by
  have hover : ∀ d : Disk, u.cfg.wf → DiskOk u.cfg u.dsk → d.bufPos = u.dsk.bufPos → d.active = false → DiskOk u.cfg d :=
    fun d _ hd hp ha => ⟨by rw [hp]; exact hd.1, fun h => by simp [ha] at h⟩
  unfold Machine.diskCountDown
  dsimp only
  split
  · refine Kept.raiseIrq ?_ _ _
    rcases hf with rfl | rfl
    · exact h.withDsk fun hk hd => hover _ hk hd rfl rfl
    · rw [diskWriteFlush_touches, diskWriteFlush_dsk]
      refine Kept.withDsk ((h.withDrives fun _ e he => ?_).withOut _) fun hk hd => hover _ hk hd rfl rfl
      exact diskWriteFlush_driveOk e he
  · rename_i hne
    exact h.withDsk fun _ hd => ⟨hd.1, fun _ => hne⟩

end

end Sys2Proof.Machine
end

section
/-! CIAs and interrupt levels: what each of their operations keeps (R351 to R359, R373 to R376). -/

namespace Sys2Proof.Machine

/-! ### CIAs -/

theorem CiaOk.raiseLine {c : Cia} (h : CiaOk c) : CiaOk c.raiseLine := by
  unfold Cia.raiseLine
  split <;> exact h

theorem CiaOk.icrSet {c : Cia} (h : CiaOk c) (b : Nat) : CiaOk (c.icrSet b) := CiaOk.raiseLine h

theorem CiaOk.todPulse {c : Cia} (h : CiaOk c) : CiaOk c.todPulse := by
  unfold Cia.todPulse
  dsimp only
  split
  · exact CiaOk.icrSet (c := { c with tod := c.tod + 1 }) h 2
  · exact h

/-- Setting or clearing the start bit of a control register leaves its load strobe alone. -/
theorem getLsbD_four_setBit_zero (x : Byte) (b : Bool) : (setBit x 0 b).getLsbD 4 = x.getLsbD 4 :=
  (getLsbD_setBit x 0 4 b (by decide)).trans (if_neg (by decide))

theorem CiaOk.tickA {c : Cia} (h : CiaOk c) : CiaOk c.tickA := by
  have huf : CiaOk (Cia.icrSet { c with ta := c.taLatch } 0) :=
    CiaOk.icrSet (c := { c with ta := c.taLatch }) h 0
  unfold Cia.tickA
  dsimp only
  split
  · split
    · split
      · exact ⟨(getLsbD_four_setBit_zero _ _).trans huf.1, huf.2⟩
      · exact huf
    · exact h
  · exact h

theorem CiaOk.tickB {c : Cia} (h : CiaOk c) (ufA : Bool) : CiaOk (c.tickB ufA) := by
  have huf : CiaOk (Cia.icrSet { c with tb := c.tbLatch } 1) :=
    CiaOk.icrSet (c := { c with tb := c.tbLatch }) h 1
  unfold Cia.tickB
  dsimp only
  split
  · split
    · split
      · exact ⟨huf.1, (getLsbD_four_setBit_zero _ _).trans huf.2⟩
      · exact huf
    · exact h
  · exact h

theorem CiaOk.timerTick {c : Cia} (h : CiaOk c) : CiaOk c.timerTick := h.tickA.tickB _

theorem CiaOk.writeTaHi {c : Cia} (h : CiaOk c) (v : Byte) : CiaOk (c.writeTaHi v) := by
  refine ⟨?_, h.2⟩
  unfold Cia.writeTaHi
  dsimp only
  split
  · exact (getLsbD_four_setBit_zero _ _).trans h.1
  · exact h.1

theorem CiaOk.writeTbHi {c : Cia} (h : CiaOk c) (v : Byte) : CiaOk (c.writeTbHi v) := by
  refine ⟨h.1, ?_⟩
  unfold Cia.writeTbHi
  dsimp only
  split
  · exact (getLsbD_four_setBit_zero _ _).trans h.2
  · exact h.2

theorem CiaOk.writeCra {c : Cia} (h : CiaOk c) (v : Byte) : CiaOk (c.writeCra v) := ⟨by simp [Cia.writeCra], h.2⟩

theorem CiaOk.writeCrb {c : Cia} (h : CiaOk c) (v : Byte) : CiaOk (c.writeCrb v) := ⟨h.1, by simp [Cia.writeCrb]⟩

theorem CiaOk.writeTod {c : Cia} (h : CiaOk c) (k : Nat) (v : Byte) : CiaOk (c.writeTod k v) := by
  unfold Cia.writeTod
  split <;> exact h

theorem CiaOk.icrWrite {c : Cia} (h : CiaOk c) (v : Byte) : CiaOk (c.icrWrite v) := CiaOk.raiseLine h

section
variable {s u : State} (h : Kept s u)
include h

theorem Kept.setPorts (i : CiaId) {c : Cia} (hc : CiaOk (u.cia i) → CiaOk c) : Kept s (setPorts i c u) := by
  cases i with
  | a => exact h.withCiaA hc
  | b =>
    unfold Machine.setPorts setCiaBLines
    dsimp only
    split
    · exact h.withCiaB hc
    · exact (h.withCiaB hc).driveControl _ _

theorem Kept.ciaWrite (i : CiaId) (r : BitVec 4) (v : Byte) : Kept s (ciaWrite i r v u) := by
  unfold Machine.ciaWrite
  dsimp only
  split
  case h_1 | h_2 | h_3 | h_4 => exact h.setPorts i id
  case h_5 | h_7 | h_13 => exact h.setCia id
  case h_6 => exact h.setCia fun hc => hc.writeTaHi v
  case h_8 => exact h.setCia fun hc => hc.writeTbHi v
  case h_9 | h_10 | h_11 => exact h.setCia fun hc => hc.writeTod _ v
  case h_12 => exact h
  case h_14 => exact h.setCia fun hc => hc.icrWrite v
  case h_15 => exact h.setCia fun hc => hc.writeCra v
  case h_16 => exact h.setCia fun hc => hc.writeCrb v

theorem Kept.ciaReadEffect (i : CiaId) (r : BitVec 4) : Kept s (ciaReadEffect i r u) := by
  unfold Machine.ciaReadEffect
  split
  · exact h.setCia id
  · exact h

theorem Kept.todPulses : Kept s (todPulses u) := by
  have hb : Kept s (u.withCiaB u.ciaB.todPulse) := h.withCiaB CiaOk.todPulse
  unfold Machine.todPulses
  dsimp only
  split
  · split
    · exact hb.withCiaA CiaOk.todPulse
    · exact hb
  · exact h

theorem Kept.ciaDivide : Kept s (ciaDivide u) := by
  unfold Machine.ciaDivide
  split
  · exact ((h.withCiaDiv fun _ => by decide).withCiaA CiaOk.timerTick).withCiaB CiaOk.timerTick
  · rename_i hne
    refine h.withCiaDiv fun hlt => ?_
    simp only [ciaDivider] at hne
    bv_omega

theorem Kept.driveTicks : Kept s (driveTicks u) := by
  have hd : Kept s (u.withDrives (Vector.ofFn fun d : Fin 4 =>
      if d.val < u.cfg.numDrives then u.drives[d].tick u.cfg else u.drives[d])) := by
    refine h.withDrives fun hk d hd => ?_
    simp only [Fin.getElem_fin, Vector.getElem_ofFn]
    split
    · exact hd.tick hk
    · exact hd
  unfold Machine.driveTicks
  dsimp only
  split
  · exact hd.withCiaB fun hc => hc.icrSet 4
  · exact hd

theorem Kept.ciaIrqLines : Kept s (ciaIrqLines u) := by
  unfold Machine.ciaIrqLines
  dsimp only
  split
  · split
    · exact (h.raiseIrq _ _).raiseIrq _ _
    · exact h.raiseIrq _ _
  · split
    · exact h.raiseIrq _ _
    · exact h

theorem Kept.ciaAndDriveTick : Kept s (ciaAndDriveTick u) := h.todPulses.ciaDivide.driveTicks.ciaIrqLines

end

/-! ### The interrupt level -/

theorem maxLevel_le {a b : BitVec 3} {n : Nat} (ha : a.toNat ≤ n) (hb : b.toNat ≤ n) : (maxLevel a b).toNat ≤ n := by
  unfold maxLevel
  split
  · exact hb
  · exact ha

theorem foldl_maxLevel_le {α : Type} {f : α → BitVec 3} {n : Nat} (hf : ∀ x, (f x).toNat ≤ n) (xs : List α) (l : BitVec 3)
    (hl : l.toNat ≤ n) : (xs.foldl (fun l x => maxLevel l (f x)) l).toNat ≤ n := by
  induction xs generalizing l with
  | nil => exact hl
  | cons x xs ih => exact ih _ (maxLevel_le hl (hf x))

/-- The computed level is one of the table's, or 0 (R375, R376). -/
theorem irqLevel_le {k : Config} (hk : k.wf) (q : Irq) : (irqLevel k q).toNat ≤ 6 := by
  unfold irqLevel
  split
  · refine foldl_maxLevel_le (fun b => ?_) _ _ (by decide)
    unfold irqBitLevel
    split
    · exact Config.wf_iplTable hk b
    · decide
  · decide

theorem Irq.levelsOk_update {k : Config} (hk : k.wf) {q : Irq} (h : LevelsOk q) : LevelsOk (q.update k) := by
  obtain ⟨hcur, htgt⟩ := h
  have hlvl := irqLevel_le hk q
  unfold Irq.update
  dsimp only
  split
  · split
    · exact ⟨hlvl, hlvl⟩
    · exact ⟨hcur, hlvl⟩
  · split
    · exact ⟨htgt, htgt⟩
    · split
      · exact ⟨htgt, htgt⟩
      · exact ⟨hcur, htgt⟩

theorem Kept.updateIpl {s u : State} (h : Kept s u) : Kept s (updateIpl u) :=
  h.withIrq fun hk hq => Irq.levelsOk_update hk hq

end Sys2Proof.Machine
end

section
/-! Register writes: the set/clear convention bit by bit (R16), and what every register write keeps (R66). -/

namespace Sys2Proof.Machine

/-! ### The set/clear convention -/

/-- A set/clear write gives each writable bit that is 1 in `v` the value of bit 15 of `v`, and leaves the others (R16). -/
theorem getLsbD_setClear {w : Nat} (mask old : BitVec w) (v : Word) (i : Nat) (hi : i < w) :
    (setClear mask old v).getLsbD i = if mask.getLsbD i && v.getLsbD i then v.getLsbD 15 else old.getLsbD i := by
  have hnamed : (v.setWidth w &&& mask).getLsbD i = (mask.getLsbD i && v.getLsbD i) := by
    rw [BitVec.getLsbD_and, BitVec.getLsbD_setWidth, Bool.and_comm]
    simp [hi]
  unfold setClear
  split
  · rename_i hset
    rw [BitVec.getLsbD_or, hnamed, hset]
    cases mask.getLsbD i && v.getLsbD i <;> simp
  · rename_i hclear
    rw [BitVec.getLsbD_and, BitVec.getLsbD_not, hnamed, Bool.eq_false_iff.2 hclear]
    cases mask.getLsbD i && v.getLsbD i <;> simp [hi]

theorem dmaconOk_setClear {old : Word} (h : DmaconOk old) (v : Word) : DmaconOk (setClear dmaconMask old v) := by
  have hhigh : ∀ i : Fin 16, (dmaconMask.getLsbD i && (0xF800 : Word).getLsbD i) = false := by decide
  refine BitVec.eq_of_getLsbD_eq fun i hi => ?_
  have hold : (old &&& 0xF800).getLsbD i = false := by rw [show old &&& 0xF800 = 0 from h]; simp
  have hm := hhigh ⟨i, hi⟩
  rw [BitVec.getLsbD_and] at hold ⊢
  rw [getLsbD_setClear _ _ _ _ hi]
  cases hmask : dmaconMask.getLsbD i
  · simpa using hold
  · rw [hmask, Bool.true_and] at hm
    rw [show (0xF800 : Word).getLsbD i = false from hm, Bool.and_false]
    exact BitVec.getLsbD_zero.symm

theorem Kept.writeDmacon {s u : State} (h : Kept s u) (v : Word) : Kept s (writeDmacon v u) :=
  (h.withDmacon fun hd => dmaconOk_setClear hd v).audioStopDisabled

/-! ### Blitter registers -/

/-- A register write to a blitter that is not busy keeps its sequencer in order: there is none to keep. -/
theorem writeBlitter_ends (u : Prop) (s : State) {f : Blitter → Blitter}
    (hf : ∀ b, (f b).st = b.st ∧ (f b).busy = b.busy) : Ends u (Kept s) (writeBlitter f s) := by
  unfold writeBlitter
  split
  · exact .refused _
  · rename_i hidle
    obtain ⟨hst, hbusy⟩ := hf s.blt
    refine .next ((Kept.refl s).withBlt fun _ hb => ⟨?_, fun h => ?_⟩)
    · rw [hst, hbusy]
      exact hb.1
    · exact absurd (hbusy ▸ h) hidle

theorem Blitter.setPt_st_busy (b : Blitter) (x : BltChan) (p : Long) :
    (b.setPt x p).st = b.st ∧ (b.setPt x p).busy = b.busy := by
  cases x <;> exact ⟨rfl, rfl⟩

theorem Blitter.setMod_st_busy (b : Blitter) (x : BltChan) (v : Word) :
    (b.setMod x v).st = b.st ∧ (b.setMod x v).busy = b.busy := by
  cases x <;> exact ⟨rfl, rfl⟩

theorem sizeWidth_bounds (v : Word) : 1 ≤ (sizeWidth v).toNat ∧ (sizeWidth v).toNat ≤ 64 := by
  unfold sizeWidth
  split
  · decide
  · rename_i hne
    bv_omega

theorem sizeHeight_bounds (v : Word) : 1 ≤ (sizeHeight v).toNat ∧ (sizeHeight v).toNat ≤ 1024 := by
  unfold sizeHeight
  split
  · decide
  · rename_i hne
    bv_omega

/-- A blit that starts has its sequencer at the first phase of its pattern, with all its words and rows still to do (R203). -/
theorem blitterOk_startBlit {k : Config} (hk : k.wf) (v : Word) (b : Blitter) : BlitterOk k (b.startBlit k v) := by
  obtain ⟨hw, hw'⟩ := sizeWidth_bounds v
  obtain ⟨hh, hh'⟩ := sizeHeight_bounds v
  exact ⟨rfl, fun _ => ⟨(Blitter.pattern_length hk _).1, hw, Nat.le_refl _, hw', hh, hh'⟩⟩

theorem writeBltsize_ends (u : Prop) (s : State) (v : Word) : Ends u (Kept s) (writeBltsize v s) := by
  unfold writeBltsize
  split
  · exact .next ((Kept.refl s).withBlt fun hk _ => blitterOk_startBlit hk v s.blt)
  · exact .refused _

/-! ### The copper's jump strobes -/

theorem Kept.copperJump {s u : State} (h : Kept s u) (second : Bool) : Kept s (copperJump second u) :=
  h.withCop fun _ => ⟨rfl, fun hs => nomatch hs⟩

/-! ### Every register -/

/-- Every register write keeps each block in order, or is refused; none faults. -/
theorem regWriteReg_ends (u : Prop) (r : Reg) (v : Word) (s : State) : Ends u (Kept s) (regWriteReg r v s) := by
  have h := Kept.refl s
  cases r with
  | dmaconr | vposr | vhposr | adkconr | dskbytr | intenar | intreqr => exact .next h
  | dskpth | dskptl | dsksync => exact .next (h.withDsk fun _ hd => hd)
  | dsklen => exact .next (h.writeDsklen v)
  | copcon | cop1lch | cop1lcl | cop2lch | cop2lcl => exact .next (h.withCop id)
  | copjmp1 | copjmp2 => exact .next (h.copperJump _)
  | bltcon0 | bltcon1 | bltafwm | bltalwm | bltcdat | bltbdat | bltadat =>
    simp only [regWriteReg]
    exact writeBlitter_ends u s fun b => ⟨rfl, rfl⟩
  | bltpth x | bltptl x =>
    simp only [regWriteReg]
    exact writeBlitter_ends u s fun b => b.setPt_st_busy x _
  | bltmod x =>
    simp only [regWriteReg]
    exact writeBlitter_ends u s fun b => b.setMod_st_busy x v
  | bltsize => exact writeBltsize_ends u s v
  | dmacon => exact .next (h.writeDmacon v)
  | intena | intreq => exact .next (h.withIrq fun _ hq => hq)
  | adkcon => exact .next (h.withAdkcon _)
  | audvol n => exact .next (h.mapAud n fun c hc => ⟨volumeOf_le v, hc.2⟩)
  | audlch n | audlcl n | audlen n | audper n | auddat n => exact .next (h.mapAud n fun c hc => hc)
  | diwstrt | diwstop | ddfstrt | ddfstop | bplcon0 | bplcon1 | bplcon2 | bpl1mod | bpl2mod => exact .next (h.withBpl _)
  | bplpth p | bplptl p | bpldat p => exact .next (h.withBpl _)
  | sprpth n | sprptl n | sprpos n | sprctl n | sprdata n | sprdatb n => exact .next (h.mapSpr n _)
  | color i => exact .next (h.withColor _)

theorem regWrite_ends (u : Prop) (off v : Word) (s : State) : Ends u (Kept s) (regWrite off v s) := by
  unfold regWrite
  split
  · exact regWriteReg_ends u _ v s
  · exact .next (.refl s)

end Sys2Proof.Machine
end

section
/-! The turns of the consumers above the copper: disk, bitplanes, sprites, and the rows of the fixed slots (R126 to R130). -/

namespace Sys2Proof.Machine

theorem Ends.of_kept {u : Prop} {s t : State} {r : Result} (h : Kept s t) (hr : Ends u (Kept t) r) : Ends u (Kept s) r :=
  hr.mono id fun _ ht => h.trans ht

theorem diskReadWord_ends (u : Prop) (s : State) : Ends u (Kept s) (diskReadWord s) := by
  have hhead : Kept s (s.withDsk { s.dsk with bufPos := diskAdvance s.cfg s.dsk.bufPos }) :=
    (Kept.refl s).withDsk fun hk hd => ⟨diskAdvance_inBuffer hk hd.1, hd.2⟩
  unfold diskReadWord
  extract_lets w hit d1 s1 s2 d2
  have hsync : Kept s s2 := by
    unfold s2
    split
    · exact hhead.syncMatch
    · exact hhead
  split
  · refine .next (Kept.grant (hsync.withDsk ?_) _ _ _)
    exact fun _ hd => hd
  · split
    · exact .next (hsync.grant _ _ _)
    · refine Ends.andThen (P := Kept s) (.memWrite hsync.withMem) fun t ht => .withPtrAdd fun p => .next ?_
      refine Kept.diskCountDown (Kept.grant (ht.withDsk ?_) _ _ _) (.inl rfl)
      exact fun _ hd => hd

theorem diskWriteWord_ends (u : Prop) (s : State) : Ends u (Kept s) (diskWriteWord s) := by
  refine .withMemRead fun w => .withPtrAdd fun p => .next (Kept.diskCountDown (Kept.grant ?_ _ _ _) (.inr rfl))
  exact (Kept.refl s).withDsk fun hk hd => ⟨diskAdvance_inBuffer hk hd.1, hd.2⟩

theorem diskTurnAt_ends (u : Prop) (s : State) : Ends u (Kept s) (diskTurnAt s) := by
  unfold diskTurnAt diskSlot
  split
  · split
    · exact .next ((Kept.refl s).grant _ _ _)
    · rename_i d _
      refine .of_kept ((Kept.refl s).trackBufferLoad d) ?_
      dsimp only
      split
      · exact diskWriteWord_ends u _
      · exact diskReadWord_ends u _
  · exact .next (.refl s)

theorem bitplaneTurn_ends (u : Prop) (s : State) : Ends u (Kept s) (bitplaneTurn s) := by
  unfold bitplaneTurn bitplaneSlot withPlaneStep
  split
  · rename_i p _
    refine .withMemRead fun w => .withPtrAdd fun a => ?_
    have hwrite : ∀ a, Ends u (Kept s) (andThen (regWriteReg (.bpldat p) w (s.setBplpt p a)) fun s1 =>
        .next (grant .bitplane s.bpl.pt[p] w s1)) := fun a =>
      Ends.andThen (.of_kept ((Kept.refl s).withBpl _) (regWriteReg_ends u _ w (s.setBplpt p a))) fun t ht =>
        .next (ht.grant _ _ _)
    split
    · exact .withPtrAdd hwrite
    · exact hwrite a
  · exact .next (.refl s)

theorem spriteTurnAt_ends (u : Prop) (n : Fin 8) (k : Fin 2) (s : State) : Ends u (Kept s) (spriteTurnAt n k s) := by
  unfold spriteTurnAt spriteSlot
  split
  · refine .withMemRead fun w => .withPtrAdd fun a => ?_
    refine Ends.andThen (.of_kept ((Kept.refl s).mapSpr n _) (regWriteReg_ends u _ w _)) fun t ht => .next ?_
    exact (ht.mapSpr n _).grant _ _ _
  · exact .next (.refl s)

/-- The rows of the fixed slots (R98). -/
theorem exec_fixedRow_ends (u : Prop) (i : Instr) (s : State) (hc : ownerOf i ≠ .copper) (hb : ownerOf i ≠ .blitter) :
    Ends u (Kept s) (exec i s) := by
  cases i with
  | move | wait | skip => exact absurd rfl hc
  | bltArea | bltFillInclusive | bltFillExclusive | bltLine => exact absurd rfl hb
  | slotRefresh0 | slotRefresh1 | slotRefresh2 | slotRefresh3 => exact .next ((Kept.refl s).grant _ _ _)
  | slotDisk0 | slotDisk1 | slotDisk2 => exact diskTurnAt_ends u s
  | slotAud0 | slotAud1 | slotAud2 | slotAud3 => exact audioTurnAt_ends u _ s
  | _ => exact spriteTurnAt_ends u _ _ s

theorem fixedTurn_ends (u : Prop) (o : BusOwner) (s : State) (hc : o ≠ .copper) (hb : o ≠ .blitter) :
    Ends u (Kept s) (fixedTurn o s) := by
  unfold fixedTurn
  split
  · rename_i i hslot
    obtain ⟨-, ho⟩ := Option.filter_eq_some_iff.1 hslot
    obtain rfl := beq_iff_eq.1 ho
    exact exec_fixedRow_ends u i s hc hb
  · exact .next (.refl s)

end Sys2Proof.Machine
end

section
/-! The blitter: a slot leaves the sequencer where it is, a turn moves it on by one phase, and the end of a period counts down
the words and rows (R204 to R222). -/

namespace Sys2Proof.Machine

/-! ### The sequencer -/

/-- Two blitters whose sequencers stand at the same place of the same blit. -/
structure SameSequencer (b c : Blitter) : Prop where
  st : c.st = b.st
  busy : c.busy = b.busy
  phase : c.phase = b.phase
  w : c.w = b.w
  width : c.width = b.width
  h : c.h = b.h
  pattern : ∀ k, c.pattern k = b.pattern k

theorem SameSequencer.refl (b : Blitter) : SameSequencer b b := ⟨rfl, rfl, rfl, rfl, rfl, rfl, fun _ => rfl⟩

theorem SameSequencer.trans {b c d : Blitter} (h : SameSequencer b c) (k : SameSequencer c d) : SameSequencer b d :=
  ⟨k.st.trans h.st, k.busy.trans h.busy, k.phase.trans h.phase, k.w.trans h.w, k.width.trans h.width, k.h.trans h.h,
    fun i => (k.pattern i).trans (h.pattern i)⟩

theorem BlitterOk.of_same {k : Config} {b c : Blitter} (hb : BlitterOk k b) (h : SameSequencer b c) : BlitterOk k c := by
  refine ⟨by rw [h.busy, h.st]; exact hb.1, fun hbusy => ?_⟩
  obtain ⟨hp, hw, hw', hwidth, hh, hh'⟩ := hb.2 (h.busy ▸ hbusy)
  constructor
  · rw [h.phase, h.pattern]
    exact hp
  · rw [h.w]
    exact hw
  · rw [h.w, h.width]
    exact hw'
  · rw [h.width]
    exact hwidth
  · rw [h.h]
    exact hh
  · rw [h.h]
    exact hh'

/-- A running blit has a sequencer, and it is in order. -/
theorem BlitterOk.sequencer {k : Config} {b : Blitter} (hb : BlitterOk k b) (hrun : b.st = .running) : SequencerOk k b :=
  hb.2 (by rw [hb.1, hrun]; rfl)

theorem getLsbD_withAsh (c : Word) (a : BitVec 4) (i : Nat) (hi : i < 12) : (withAsh c a).getLsbD i = c.getLsbD i := by
  simp only [withAsh, BitVec.getLsbD_append, BitVec.getLsbD_extractLsb', hi, if_true, decide_true, Bool.true_and, Nat.zero_add]

/-- The dot's position is no part of the pattern's choice (R102, R219). -/
theorem SameSequencer.withAsh (b : Blitter) (a : BitVec 4) (p : Long) :
    SameSequencer b { b with con0 := withAsh b.con0 a, cpt := p } := by
  refine ⟨rfl, rfl, rfl, rfl, rfl, rfl, fun k => ?_⟩
  have hbit := getLsbD_withAsh b.con0 a
  simp only [Blitter.pattern, useA, useB, useC, useD, hbit 11 (by decide), hbit 10 (by decide), hbit 9 (by decide),
    hbit 8 (by decide)]

/-! ### Slots -/

/-- What the slot of a phase can do: chip memory, the record, and registers of the blitter that are not its sequencer. -/
def SlotDone (s t : State) : Prop :=
  t = ((s.withMem t.mem).withBlt t.blt).withOut t.out ∧ SameSequencer s.blt t.blt

theorem SlotDone.kept {s t : State} (h : SlotDone s t) : Kept s t := by
  obtain ⟨ht, hsame⟩ := h
  rw [ht]
  refine (((Kept.refl s).withMem _).withBlt ?_).withOut _
  exact fun _ hb => hb.of_same hsame

theorem SlotDone.cfg {s t : State} (h : SlotDone s t) : t.cfg = s.cfg := h.kept.cfg

theorem Ends.withAreaStep {u : Prop} {P : State → Prop} {b : Blitter} {x : BltChan} {desc rowEnd : Bool} {k : Long → Result}
    (h : ∀ p, Ends u P (k p)) : Ends u P (withAreaStep b x desc rowEnd k) := by
  refine .withPtrAdd fun p => ?_
  split
  · exact .withPtrAdd h
  · exact h p

theorem bltFetch_ends (u : Prop) (m : BltMode) (x : BltChan) (s : State) : Ends u (SlotDone s) (bltFetch m x s) := by
  refine .withMemRead fun w => .withAreaStep fun p => .next ⟨rfl, ?_⟩
  cases x <;> exact ⟨rfl, rfl, rfl, rfl, rfl, rfl, fun _ => rfl⟩

theorem bltWriteD_ends (u : Prop) (desc : Bool) (s : State) : Ends u (SlotDone s) (bltWriteD desc s) := by
  refine Ends.andThen (P := fun t => t = s.withMem t.mem) (.memWrite fun m => rfl) fun t ht => ?_
  refine .withAreaStep fun p => .next ⟨?_, rfl, rfl, rfl, rfl, rfl, rfl, fun _ => rfl⟩
  rw [ht]
  rfl

theorem areaSlot_ends (u : Prop) (m : BltMode) (ph : BltPhase) (s : State) : Ends u (SlotDone s) (areaSlot m ph s) := by
  cases ph with
  | a | b | c => exact bltFetch_ends u m _ s
  | d => exact bltWriteD_ends u _ s
  | idle => exact .next ⟨rfl, .refl _⟩

theorem lineFetchC_ends (u : Prop) (s : State) : Ends u (SlotDone s) (lineFetchC s) := by
  refine .withMemRead fun w => .next ?_
  split
  · exact ⟨rfl, rfl, rfl, rfl, rfl, rfl, rfl, fun _ => rfl⟩
  · exact ⟨rfl, .refl _⟩

theorem lineWriteD_ends (u : Prop) (m : LineMode) (s : State) : Ends u (SlotDone s) (lineWriteD m s) := by
  have hmem : Ends u (fun t => t = s.withMem t.mem)
      (if useD s.blt.con0 then memWrite s s.blt.dpt (s.blt.dotWord m) else .next s) := by
    split
    · exact .memWrite fun m => rfl
    · exact .next rfl
  refine hmem.andThen fun t ht => .next ⟨?_, rfl, rfl, rfl, rfl, rfl, rfl, fun _ => rfl⟩
  rw [ht]
  rfl

theorem lineSlot_ends (u : Prop) (m : LineMode) (ph : BltPhase) (s : State) : Ends u (SlotDone s) (lineSlot m ph s) := by
  cases ph with
  | a | b | c => exact lineFetchC_ends u s
  | d => exact lineWriteD_ends u m s
  | idle => exact .next ⟨rfl, .refl _⟩

/-! ### The end of a period -/

/-- The row step (R214): the words of the row and the rows left count down, and after the last row the blit is over. -/
theorem Kept.rowAdvance {s u : State} (h : Kept s u) (m : BltMode) (hrun : u.blt.st = .running) : Kept s (rowAdvance m u) := by
  unfold Machine.rowAdvance
  dsimp only
  split
  · split
    · exact h.enterFinal _
    · rename_i hmore
      refine h.withBlt fun _ hb => ⟨hb.1, fun _ => ?_⟩
      obtain ⟨hp, hw, hw', hwidth, hh, hh'⟩ := hb.sequencer hrun
      refine ⟨hp, Nat.le_trans hw hw', Nat.le_refl _, hwidth, ?_, ?_⟩ <;> bv_omega
  · rename_i hmore
    refine h.withBlt fun _ hb => ⟨hb.1, fun _ => ?_⟩
    obtain ⟨hp, hw, hw', hwidth, hh, hh'⟩ := hb.sequencer hrun
    refine ⟨hp, ?_, ?_, hwidth, hh, hh'⟩ <;> bv_omega

theorem Blitter.computeWord_same (m : BltMode) (b : Blitter) : SameSequencer b (b.computeWord m) := by
  unfold Blitter.computeWord
  dsimp only
  split <;> exact ⟨rfl, rfl, rfl, rfl, rfl, rfl, fun _ => rfl⟩

theorem Kept.completeWord {s u : State} (h : Kept s u) (m : BltMode) (hrun : u.blt.st = .running) :
    Kept s (completeWord m u) :=
  (h.withBlt fun _ hb => hb.of_same (u.blt.computeWord_same m)).rowAdvance m ((u.blt.computeWord_same m).st.trans hrun)

section
variable {u : Prop} {P : State → Prop} {b : Blitter} {k : Blitter → Result}

/-- A step of the dot to either side moves its position and its pointer (R219). -/
theorem Ends.lineStepX (neg : Bool) (h : ∀ c, SameSequencer b c → Ends u P (k c)) : Ends u P (lineStepX neg b k) := by
  unfold Machine.lineStepX lineDecX lineIncX
  split
  · dsimp only
    split
    · exact .withPtrAdd fun p => h _ (.withAsh b _ p)
    · exact h _ (.withAsh b _ b.cpt)
  · dsimp only
    split
    · exact .withPtrAdd fun p => h _ (.withAsh b _ p)
    · exact h _ (.withAsh b _ b.cpt)

/-- A step of the dot up or down moves its pointer. -/
theorem Ends.lineStepY (neg : Bool) (h : ∀ c, SameSequencer b c → Ends u P (k c)) : Ends u P (lineStepY neg b k) := by
  have hdot : ∀ p, Ends u P (k { b with cpt := p, dotThisLine := false }) := fun p =>
    h _ ⟨rfl, rfl, rfl, rfl, rfl, rfl, fun _ => rfl⟩
  unfold Machine.lineStepY lineDecY lineIncY
  split
  · exact .withPtrAdd hdot
  · exact .withPtrAdd hdot

theorem Ends.lineMinorStep (m : LineMode) (h : ∀ c, SameSequencer b c → Ends u P (k c)) :
    Ends u P (lineMinorStep m b k) := by
  unfold Machine.lineMinorStep
  split
  · exact h b (.refl b)
  · split
    · exact .lineStepY _ h
    · exact .lineStepX _ h

theorem Ends.lineMajorStep (m : LineMode) (h : ∀ c, SameSequencer b c → Ends u P (k c)) :
    Ends u P (lineMajorStep m b k) := by
  unfold Machine.lineMajorStep
  split
  · exact .lineStepX _ h
  · exact .lineStepY _ h

end

theorem Blitter.errorStep_same (b : Blitter) : SameSequencer b b.errorStep := by
  unfold Blitter.errorStep
  split
  · exact ⟨rfl, rfl, rfl, rfl, rfl, rfl, fun _ => rfl⟩
  · exact .refl b

/-- The dots left count down, and after the last dot the line is over (R219). -/
theorem Kept.lineFinish {s : State} {b : Blitter} (hsame : SameSequencer s.blt b) (hrun : s.blt.st = .running) :
    Kept s (lineFinish s b) := by
  unfold Machine.lineFinish
  dsimp only
  split
  · exact (Kept.refl s).enterFinal _
  · rename_i hmore
    refine (Kept.refl s).withBlt fun _ hb => ?_
    have hb := hb.of_same hsame
    obtain ⟨hp, hw, hw', hwidth, hh, hh'⟩ := hb.sequencer (hsame.st.trans hrun)
    refine ⟨hb.1, fun _ => ⟨hp, hw, hw', hwidth, ?_, ?_⟩⟩ <;> bv_omega

theorem completeDot_ends (u : Prop) (m : LineMode) (s : State) (hrun : s.blt.st = .running) :
    Ends u (Kept s) (completeDot m s) :=
  .lineMinorStep m fun _ h1 => .lineMajorStep m fun _ h2 =>
    .next (.lineFinish (s.blt.errorStep_same.trans (h1.trans h2)) hrun)

/-! ### Turns -/

/-- The next phase of the pattern, or the first one and the end of the period (R206). -/
theorem phaseAdvance_ends {u : Prop} {n : Nat} {complete : State → Result}
    (hc : ∀ t : State, t.blt.st = .running → Ends u (Kept t) (complete t)) (s : State) (hrun : s.blt.st = .running)
    (hn : n = (s.blt.pattern s.cfg).length) : Ends u (Kept s) (phaseAdvance n complete s) := by
  unfold phaseAdvance
  split
  · have hfirst : Kept s (s.withBlt { s.blt with phase := 0 }) := by
      refine (Kept.refl s).withBlt fun hk hb => ⟨hb.1, fun _ => ?_⟩
      obtain ⟨-, hw, hw', hwidth, hh, hh'⟩ := hb.sequencer hrun
      exact ⟨(s.blt.pattern_length hk).1, hw, hw', hwidth, hh, hh'⟩
    exact .of_kept hfirst (hc _ hrun)
  · rename_i hne
    refine .next ((Kept.refl s).withBlt fun hk hb => ⟨hb.1, fun _ => ?_⟩)
    have hlen := (s.blt.pattern_length hk).2
    obtain ⟨hphase, hw, hw', hwidth, hh, hh'⟩ := hb.sequencer hrun
    refine ⟨?_, hw, hw', hwidth, hh, hh'⟩
    show (s.blt.phase + 1).toNat < (s.blt.pattern s.cfg).length
    rw [← hn] at hlen hphase ⊢
    bv_omega

/-- A turn under the pattern that the control registers select; its phase is outside the pattern only if the sequencer was
not in order (R206, R381). -/
theorem patternTurn_ends {pat : List BltPhase} {needs : BltPhase → Bool} {slot : BltPhase → State → Result}
    {complete : State → Result} (s : State) (hrun : s.blt.st = .running) (hpat : pat = s.blt.pattern s.cfg)
    (hs : ∀ ph u, Ends u (SlotDone s) (slot ph s))
    (hc : ∀ (t : State) u, t.blt.st = .running → Ends u (Kept t) (complete t)) :
    Ends (s.cfg.wf → ¬ BlitterOk s.cfg s.blt) (Kept s) (patternTurn pat needs slot complete s) := by
  unfold patternTurn
  split
  · rename_i hnone
    refine .fault fun _ _ hb => ?_
    have hphase := (hb.sequencer hrun).phaseLt
    rw [← hpat] at hphase
    exact Nat.not_le.2 hphase (List.getElem?_eq_none_iff.1 hnone)
  · split
    · split
      · refine (hs _ _).andThen fun t ht => .of_kept ht.kept ?_
        refine phaseAdvance_ends (fun t => hc t _) t (ht.2.st.trans hrun) ?_
        rw [ht.2.pattern, ht.cfg, hpat]
      · exact .next (.refl s)
    · exact phaseAdvance_ends (fun t => hc t _) s hrun (by rw [hpat])

theorem areaTurn_ends (m : BltMode) (s : State) (hrun : s.blt.st = .running) (hpat : areaPattern s m = s.blt.pattern s.cfg) :
    Ends (s.cfg.wf → ¬ BlitterOk s.cfg s.blt) (Kept s) (areaTurn m s) :=
  patternTurn_ends s hrun hpat (fun ph u => areaSlot_ends u m ph s) fun t _ ht => .next ((Kept.refl t).completeWord m ht)

theorem lineTurn_ends (m : LineMode) (s : State) (hrun : s.blt.st = .running) (hpat : s.cfg.linePattern = s.blt.pattern s.cfg) :
    Ends (s.cfg.wf → ¬ BlitterOk s.cfg s.blt) (Kept s) (lineTurn m s) :=
  patternTurn_ends s hrun hpat (fun ph u => lineSlot_ends u m ph s) fun t u ht => completeDot_ends u m t ht

/-- The row that a running blitter executes turns under the pattern of its control registers (R205, R206). -/
theorem exec_blitMode_ends (s : State) (hrun : s.blt.st = .running) :
    Ends (s.cfg.wf → ¬ BlitterOk s.cfg s.blt) (Kept s) (exec (decodeBlitMode s.blt.con1) s) := by
  unfold decodeBlitMode
  split
  · rename_i hline
    exact lineTurn_ends _ s hrun (if_pos hline).symm
  · rename_i hline
    have harea : ∀ fill, (s.blt.con1.getLsbD 4 || s.blt.con1.getLsbD 3) = fill →
        s.cfg.cycleTable[cycleIndex (useA s.blt.con0) (useB s.blt.con0) (useC s.blt.con0) (useD s.blt.con0) fill]
          = s.blt.pattern s.cfg := fun fill hfill => by rw [← hfill]; exact (if_neg hline).symm
    split
    · rename_i hefe
      exact areaTurn_ends _ s hrun (harea _ (by rw [hefe, Bool.true_or]))
    · rename_i hefe
      have hefe := Bool.eq_false_iff.2 hefe
      split
      · rename_i hife
        exact areaTurn_ends _ s hrun (harea _ (by rw [hefe, hife, Bool.or_true]))
      · rename_i hife
        exact areaTurn_ends _ s hrun (harea _ (by rw [hefe, Bool.eq_false_iff.2 hife, Bool.or_false]))

/-- A blitter in `final` has no blit in progress, and none when it stops (R222). -/
theorem Kept.stopFinal {s u : State} (h : Kept s u) (hfin : u.blt.st = .final) :
    Kept s (u.withBlt { u.blt with st := .stopped }) := by
  refine h.withBlt fun _ hb => ?_
  have hidle : u.blt.busy = false := by rw [hb.1, hfin]; rfl
  exact ⟨hidle, fun hbusy => by simp [hidle] at hbusy⟩

theorem finalTurn_ends (u : Prop) (s : State) (hfin : s.blt.st = .final) : Ends u (Kept s) (finalTurn s) := by
  unfold finalTurn
  split
  · split
    · exact (bltWriteD_ends u _ s).andThen fun t ht => .next (ht.kept.stopFinal (ht.2.st.trans hfin))
    · exact .next (.refl s)
  · exact .next ((Kept.refl s).stopFinal hfin)

theorem blitterTurn_ends (s : State) : Ends (s.cfg.wf → ¬ BlitterOk s.cfg s.blt) (Kept s) (blitterTurn s) := by
  unfold blitterTurn
  split
  · split
    case h_1 | h_2 => exact .next (.refl s)
    case h_3 hrun => exact exec_blitMode_ends s hrun
    case h_4 hfin => exact finalTurn_ends _ s hfin
  · exact .next (.refl s)

theorem Kept.blitterStartTick {s u : State} (h : Kept s u) : Kept s (blitterStartTick u) := by
  unfold Machine.blitterStartTick
  split
  · rename_i hst
    split
    · refine h.withBlt fun _ hb => ⟨?_, fun hbusy => ?_⟩
      · rw [hb.1, hst]
        rfl
      · obtain ⟨hp, hw, hw', hwidth, hh, hh'⟩ := hb.2 hbusy
        exact ⟨hp, hw, hw', hwidth, hh, hh'⟩
    · exact h.withBlt fun _ hb => hb.of_same ⟨rfl, rfl, rfl, rfl, rfl, rfl, fun _ => rfl⟩
  · exact h

end Sys2Proof.Machine
end

section
/-! The copper: each instruction and each turn leave the latch as the state they go to wants it (R242 to R252). -/

namespace Sys2Proof.Machine

/-- What a WAIT (`skip` false) or SKIP (`skip` true) that is executed finds latched: both its words, and none of the next
instruction (R248). -/
def BeamWordsLatched (skip : Bool) (c : Copper) : Prop :=
  c.ir1.getLsbD 0 = true ∧ c.ir2.getLsbD 0 = skip ∧ c.haveIr1 = false

theorem CopperOk.latched_needFreeCycle {c : Copper} (h : CopperOk c) (hst : c.st = .needFreeCycle) :
    BeamWordsLatched (c.ir2.getLsbD 0) c := by
  obtain ⟨hlatch, -⟩ := h
  simp only [copperLatchOk, hst, Bool.and_eq_true, Bool.not_eq_true'] at hlatch
  exact ⟨hlatch.1, rfl, hlatch.2⟩

theorem CopperOk.latched_wait {c : Copper} (h : CopperOk c) (hst : c.st = .wait) : BeamWordsLatched false c := by
  obtain ⟨hlatch, -⟩ := h
  simp only [copperLatchOk, hst, Bool.and_eq_true, Bool.not_eq_true'] at hlatch
  exact ⟨hlatch.1.1, hlatch.1.2, hlatch.2⟩

theorem CopperOk.latched_skip {c : Copper} (h : CopperOk c) (hst : c.st = .skip) : BeamWordsLatched true c := by
  obtain ⟨hlatch, -⟩ := h
  simp only [copperLatchOk, hst, Bool.and_eq_true, Bool.not_eq_true'] at hlatch
  exact ⟨hlatch.1.1, hlatch.1.2, hlatch.2⟩

/-- Outside `read_inst` no skip mark stands. -/
theorem CopperOk.noSkipMark {c : Copper} (h : CopperOk c) (hst : c.st ≠ .readInst) : c.skipNext = false :=
  Bool.eq_false_iff.2 fun hs => hst (h.2 hs)

/-! ### Instructions -/

theorem execMove_ends (u : Prop) (off data : Word) (s : State) (hl : s.cop.haveIr1 = false) :
    Ends u (Kept s) (execMove off data s) := by
  unfold execMove
  split
  · have hhalt : CopperOk { s.cop with st := .halted, skipNext := false } :=
      ⟨by simp [copperLatchOk, hl], fun hs => nomatch hs⟩
    exact .next ((Kept.refl s).withCop (x := { s.cop with st := .halted, skipNext := false }) fun _ => hhalt)
  · split
    · refine .next ((Kept.refl s).withCop ?_)
      exact fun hc => ⟨hc.1, fun hs => nomatch hs⟩
    · exact regWrite_ends u off data s

/-- A WAIT or SKIP just fetched is latched whole when it goes to `need_free_cycle`. -/
theorem Kept.needFreeCycle {skip : Bool} {s : State} (hl : CopperOk s.cop → BeamWordsLatched skip s.cop) :
    Kept s (s.withCop { s.cop with skipNext := false, st := .needFreeCycle }) := by
  refine (Kept.refl s).withCop fun hc => ⟨?_, fun hs => nomatch hs⟩
  obtain ⟨h1, -, hnone⟩ := hl hc
  simp [copperLatchOk, h1, hnone]

/-- After the free turn the instruction compares in the state that its second word chooses. -/
theorem Kept.afterFreeCycle {skip : Bool} {s : State} (hl : CopperOk s.cop → BeamWordsLatched skip s.cop)
    (hst : s.cop.st = .needFreeCycle) : Kept s (s.withCopState (if skip then .skip else .wait)) := by
  refine (Kept.refl s).withCop fun hc => ⟨?_, fun hs => ?_⟩
  · obtain ⟨h1, h2, hnone⟩ := hl hc
    cases skip <;> simp only [copperLatchOk, h1, h2, hnone] <;> decide
  · exact absurd hs (by simp [hc.noSkipMark (by simp [hst])])

theorem execWait_ends (u : Prop) (vp hp : Byte) (bfd : Bool) (ve : BitVec 7) (he : Byte) (s : State)
    (hl : CopperOk s.cop → BeamWordsLatched false s.cop) : Ends u (Kept s) (execWait vp hp bfd ve he s) := by
  unfold execWait
  split
  case h_1 =>
    refine .next ?_
    split
    · exact (Kept.refl s).withCop fun _ => ⟨rfl, fun _ => rfl⟩
    · exact .refl s
  case h_2 hst => exact .next (.afterFreeCycle hl hst)
  case h_3 => exact .next (.needFreeCycle hl)

theorem execSkip_ends (u : Prop) (vp hp : Byte) (bfd : Bool) (ve : BitVec 7) (he : Byte) (s : State)
    (hl : CopperOk s.cop → BeamWordsLatched true s.cop) : Ends u (Kept s) (execSkip vp hp bfd ve he s) := by
  unfold execSkip
  split
  case h_1 =>
    refine .next ((Kept.refl s).withCop ?_)
    exact fun _ => ⟨rfl, fun _ => rfl⟩
  case h_2 hst => exact .next (.afterFreeCycle hl hst)
  case h_3 => exact .next (.needFreeCycle hl)

/-! ### Turns -/

/-- The instruction of two fetched words, executed in the turn of the second (R245). -/
theorem exec_decodeCopper_ends (u : Prop) (s : State) (hnone : s.cop.haveIr1 = false) :
    Ends u (Kept s) (exec (decodeCopper s.cop.ir1 s.cop.ir2) s) := by
  unfold decodeCopper
  split
  · exact execMove_ends u _ _ s hnone
  · rename_i h1
    have h1 := Bool.eq_true_of_not_eq_false h1
    split
    · rename_i h2
      exact execWait_ends u _ _ _ _ _ s fun _ => ⟨h1, h2, hnone⟩
    · rename_i h2
      exact execSkip_ends u _ _ _ _ _ s fun _ => ⟨h1, Bool.eq_true_of_not_eq_false h2, hnone⟩

/-- While instructions are read, the latch may hold anything. -/
theorem Kept.whileReading {s u : State} (h : Kept s u) {c : Copper} (hst : c.st = .readInst) : Kept s (u.withCop c) :=
  h.withCop fun _ => ⟨by simp [copperLatchOk, hst], fun _ => hst⟩

theorem copperFetch_ends (u : Prop) (s : State) (hst : s.cop.st = .readInst) : Ends u (Kept s) (copperFetch s) := by
  unfold copperFetch
  split
  · refine .withMemRead fun w => .withPtrAdd fun p => ?_
    have hgrant := ((Kept.refl s).whileReading (c := { s.cop with pc := p }) hst).grant .copper s.cop.pc w
    dsimp only
    split
    · have hlatch : Kept s (copperLatch2 w (grant .copper s.cop.pc w (s.withCop { s.cop with pc := p }))) :=
        hgrant.whileReading (by exact hst)
      exact .of_kept hlatch (exec_decodeCopper_ends u _ rfl)
    · exact .next (hgrant.whileReading (by exact hst))
  · exact .next (.refl s)

theorem copperTurn_ends (u : Prop) (s : State) : Ends u (Kept s) (copperTurn s) := by
  unfold copperTurn
  split
  · split
    case h_1 => exact .next (.refl s)
    case h_2 =>
      have hrestart : Kept s (copperRestart s) := (Kept.refl s).withCop fun _ => ⟨rfl, fun hs => nomatch hs⟩
      exact .of_kept hrestart (copperFetch_ends u _ rfl)
    case h_3 hst => exact copperFetch_ends u s hst
    case h_4 hst =>
      split
      · rename_i hskip
        exact execSkip_ends u _ _ _ _ _ s fun hc => hskip ▸ hc.latched_needFreeCycle hst
      · rename_i hwait
        exact execWait_ends u _ _ _ _ _ s fun hc => Bool.eq_false_iff.2 hwait ▸ hc.latched_needFreeCycle hst
    case h_5 hst => exact execWait_ends u _ _ _ _ _ s fun hc => hc.latched_wait hst
    case h_6 hst => exact execSkip_ends u _ _ _ _ _ s fun hc => hc.latched_skip hst
    case h_7 hst =>
      refine .next ((Kept.refl s).withCop fun hc => ⟨?_, fun hs => ?_⟩)
      · have hlatch := hc.1
        simp only [copperLatchOk, hst] at hlatch
        exact hlatch
      · exact absurd hs (by simp [hc.noSkipMark (by simp [hst])])
    case h_8 => exact .next ((Kept.refl s).withCop fun _ => ⟨rfl, fun _ => rfl⟩)
  · exact .next (.refl s)

theorem Kept.copperFieldStart {s u : State} (h : Kept s u) : Kept s (copperFieldStart u) :=
  h.withCop fun _ => ⟨rfl, fun hs => nomatch hs⟩

end Sys2Proof.Machine
end

section
/-! The tick, the host's calls and the step: every one keeps each block in order (R120, R122, R150), and the fault
`unreachableCycleEntry` needs a blitter that is not. The invariants of Safety.lean follow. -/

namespace Sys2Proof.Machine

/-- From any state the operation keeps each block in order, and it faults with `unreachableCycleEntry` only from a blitter that
is not in order. -/
def KeepsOrder (f : State → Result) : Prop :=
  ∀ s, Ends (s.cfg.wf → ¬ BlitterOk s.cfg s.blt) (Kept s) (f s)

theorem KeepsOrder.of_kept {f : State → Result} (hf : KeepsOrder f) {s t : State} (h : Kept s t) :
    Ends (s.cfg.wf → ¬ BlitterOk s.cfg s.blt) (Kept s) (f t) := by
  refine (hf t).mono (fun hbad hk hb => ?_) fun _ ht => h.trans ht
  have hk' : t.cfg.wf := h.cfg ▸ hk
  exact hbad hk' (h.cfg ▸ h.blitter hk hb)

theorem KeepsOrder.andThen {f g : State → Result} (hf : KeepsOrder f) (hg : KeepsOrder g) :
    KeepsOrder fun s => andThen (f s) g :=
  fun s => (hf s).andThen fun _ ht => hg.of_kept ht

theorem KeepsOrder.ifUnclaimed {f : State → Result} (hf : KeepsOrder f) : KeepsOrder (ifUnclaimed f) := by
  intro s
  unfold Machine.ifUnclaimed
  split
  · exact .next (.refl s)
  · exact hf s

/-! ### The chain -/

theorem upperChain_keepsOrder : KeepsOrder upperChain := by
  have hfixed : ∀ o, o ≠ .copper → o ≠ .blitter → KeepsOrder (fixedTurn o) := fun o hc hb s => fixedTurn_ends _ o s hc hb
  have hrefresh := hfixed .refresh (by decide) (by decide)
  have hdisk := (hfixed .disk (by decide) (by decide)).ifUnclaimed
  have haudio := (hfixed .audio (by decide) (by decide)).ifUnclaimed
  have hbitplane : KeepsOrder (ifUnclaimed bitplaneTurn) := KeepsOrder.ifUnclaimed fun s => bitplaneTurn_ends _ s
  have hsprite := (hfixed .sprite (by decide) (by decide)).ifUnclaimed
  exact hrefresh.andThen (hdisk.andThen (haudio.andThen (hbitplane.andThen hsprite)))

theorem chain_keepsOrder : KeepsOrder chain := by
  have hcopper : KeepsOrder (ifUnclaimed copperTurn) := KeepsOrder.ifUnclaimed fun s => copperTurn_ends _ s
  have hblitter : KeepsOrder (ifUnclaimed blitterTurn) := KeepsOrder.ifUnclaimed blitterTurn_ends
  exact upperChain_keepsOrder.andThen (hcopper.andThen hblitter)

theorem arbitrate_keepsOrder (wants : Bool) : KeepsOrder (arbitrate wants) := by
  refine fun s => (chain_keepsOrder s).andThen fun t ht => .next (Kept.withCpuBlock ?_ _)
  rw [freeCycle_touches]
  exact ht.withOut _

/-! ### The tick -/

section
variable {s u : State} (h : Kept s u)
include h

theorem Kept.housekeeping : Kept s (housekeeping u) := by
  have hddf : Kept s (ddfTrack u) := by
    rw [ddfTrack_touches]
    exact h.withBpl _
  exact hddf.audioPeriodTicks.blitterStartTick

/-- A field starts with the beam at its origin, and whatever the interlace bit says of the field, it has a first line
(R151). -/
theorem Kept.fieldStart (hv : u.beam.vpos = 0) : Kept s (fieldStart u) := by
  have hbeam : Kept s (u.withBeam { u.beam with lof := if u.bpl.lace then !u.beam.lof else u.beam.lof }) := by
    refine h.withBeam fun hk hu => ⟨hu.1, ?_⟩
    show u.beam.vpos.toNat < _
    rw [hv]
    exact (Config.lines_bounds hk _).1
  exact ((hbeam.copperFieldStart.withSpr _).raiseIrq _ _).withOut _

theorem Kept.nextLine : Kept s (nextLine u) := by
  unfold Machine.nextLine
  split
  · refine Kept.fieldStart (h.withBeam fun hk _ => ?_) rfl
    exact ⟨Config.line_nonempty hk, (Config.lines_bounds hk _).1⟩
  · rename_i hlast
    refine h.withBeam fun hk ⟨_, hv⟩ => ⟨Config.line_nonempty hk, ?_⟩
    have hmax := (Config.lines_bounds hk u.beam.lof).2
    rw [fieldLines_eq] at hlast
    dsimp only
    bv_omega

theorem Kept.beamAdvance : Kept s (beamAdvance u) := by
  unfold Machine.beamAdvance
  split
  · exact (h.nextLine.withBpl _).withSpr _
  · rename_i hend
    refine h.withBeam fun hk ⟨hh, hv⟩ => ⟨?_, hv⟩
    obtain ⟨-, hmax, -⟩ := Config.wf_beam hk
    dsimp only
    bv_omega

theorem Kept.tickRest (wants : Bool) (sv : Vector (BitVec 2) 8) (pf : List (BitVec 6)) : Kept s (tickRest wants sv pf u) := by
  have hpixels : Kept s (pixelOutput sv pf u) := h.withOut _
  have hphase4 : Kept s (phase4 (pixelOutput sv pf u)) := Kept.dskbytHoldCountdown (hpixels.withIrq fun _ hq => hq)
  exact (hphase4.updateIpl.ciaAndDriveTick.audioMixIfDue.beamAdvance.withOut _).withCpuGrant _

end

theorem phase2_keepsOrder (wants : Bool) : KeepsOrder (phase2 wants) := by
  intro s
  unfold phase2
  split
  · exact (arbitrate_keepsOrder wants).of_kept (Kept.refl s).housekeeping
  · exact .next (.refl s)

theorem tick_keepsOrder (wants : Bool) : KeepsOrder (tick wants) := by
  intro s
  have hstart : Kept s (phase1 (tickStart s)) := ((((Kept.refl s).withOut _).withCpuGrant _).withSpr _).withBpl _
  exact ((phase2_keepsOrder wants).of_kept hstart).andThen fun t ht => .next (ht.tickRest wants _ _)

/-! ### The host's calls -/

theorem withBus_keepsOrder {k : State → Result} (hk : KeepsOrder k) : KeepsOrder fun s => withBus s k := by
  intro s
  show Ends _ _ (withBus s k)
  unfold withBus
  split
  · exact hk.of_kept ((Kept.refl s).withCpuGrant _)
  · exact .refused _

theorem customRead_keepsOrder (width : Width) (off : Word) : KeepsOrder (customRead width off) := by
  intro s
  have hreply : ∀ v, Ends (s.cfg.wf → ¬ BlitterOk s.cfg s.blt) (Kept s) (.next (s.replied v)) := fun v =>
    .next ((Kept.refl s).withOut _)
  unfold customRead
  cases width with
  | byte => exact hreply _
  | word | long =>
    dsimp only
    split
    · exact .refused _
    · exact hreply _

theorem customWrite_keepsOrder (width : Width) (off : Word) (v : Long) : KeepsOrder (customWrite width off v) := by
  intro s
  have hwrite : ∀ off v, KeepsOrder (regWrite off v) := fun off v s => regWrite_ends _ off v s
  unfold customWrite
  cases width with
  | byte => exact .refused _
  | word =>
    dsimp only
    split
    · exact .refused _
    · exact hwrite _ _ s
  | long =>
    dsimp only
    split
    · exact .refused _
    · exact (hwrite _ _).andThen (hwrite _ _) s

theorem withChipAddr_ends {u : Prop} {P : State → Prop} {width : Width} {a : Long} {s : State} {k : Nat → Result}
    (hk : ∀ n, Ends u P (k n)) : Ends u P (withChipAddr width a s k) := by
  unfold withChipAddr
  split
  · exact .refused _
  · split
    · exact .refused _
    · exact hk _

theorem chipRead_keepsOrder (width : Width) (a : Long) : KeepsOrder (chipRead width a) := fun s =>
  withChipAddr_ends fun _ => .next ((Kept.refl s).withOut _)

theorem chipWrite_keepsOrder (width : Width) (a v : Long) : KeepsOrder (chipWrite width a v) := fun s =>
  withChipAddr_ends fun _ => .next ((Kept.refl s).withMem _)

theorem withRomAligned_ends {u : Prop} {P : State → Prop} {width : Width} {a : Long} {r : Result} (hr : Ends u P r) :
    Ends u P (withRomAligned width a r) := by
  unfold withRomAligned
  split
  · exact .refused _
  · exact hr

theorem cpuRead_keepsOrder (width : Width) (a : Long) : KeepsOrder (cpuRead width a) := by
  intro s
  unfold cpuRead
  split
  case h_1 => exact withBus_keepsOrder (customRead_keepsOrder width _) s
  case h_2 =>
    exact .next (ciaBytesRead_keeps (fun i r _ h => h.ciaReadEffect i r) (fun _ _ h => h.withOut _) _ _ _ _ (.refl s))
  case h_3 => exact withRomAligned_ends (.next ((Kept.refl s).withOut _))
  case h_4 => exact withBus_keepsOrder (chipRead_keepsOrder width a) s
  case h_5 => exact .refused _

theorem cpuWrite_keepsOrder (width : Width) (a v : Long) : KeepsOrder (cpuWrite width a v) := by
  intro s
  unfold cpuWrite
  split
  case h_1 => exact withBus_keepsOrder (customWrite_keepsOrder width _ v) s
  case h_2 => exact .next (ciaBytesWrite_keeps (fun i r v _ h => h.ciaWrite i r v) _ _ _ _ (.refl s))
  case h_3 => exact withRomAligned_ends (.next (.refl s))
  case h_4 => exact withBus_keepsOrder (chipWrite_keepsOrder width a v) s
  case h_5 => exact .refused _

theorem mediaCall_keepsOrder (d : Fin 4) (m : Option Medium) : KeepsOrder (mediaCall d m) := by
  intro s
  unfold mediaCall
  split
  · exact .next ((Kept.refl s).setMedium d m)
  · exact .refused _

/-- After a reset every block is in order, whatever it was before (R400, R401). -/
theorem kept_resetAgain (s : State) : Kept s s.resetAgain := by
  have hchan : ∀ n : Fin 4, ChanOk s.resetAgain.aud[n] := by
    intro n
    simp only [State.resetAgain, State.afterReset, Fin.getElem_fin, Vector.getElem_replicate]
    exact ⟨by decide, fun _ => rfl⟩
  have hdrive : s.cfg.wf → ∀ d : Fin 4, DriveOk s.cfg s.resetAgain.drives[d] := by
    intro hk d
    simp only [State.resetAgain, State.afterReset, Fin.getElem_fin, Vector.getElem_ofFn]
    exact ⟨Nat.zero_le _, Config.wf_revolution hk, Nat.le_refl _⟩
  have hbeam : s.cfg.wf → BeamOk s.cfg s.resetAgain.beam := by
    intro hk
    exact ⟨Config.line_nonempty hk, (Config.lines_bounds hk _).1⟩
  exact {
    cfg := rfl
    beam := fun hk _ => hbeam hk
    copper := fun _ => ⟨rfl, fun hs => nomatch hs⟩
    blitter := fun _ _ => ⟨rfl, fun hb => nomatch hb⟩
    levels := fun _ _ => show LevelsOk Irq.initial from ⟨by decide, by decide⟩
    dmacon := fun _ => show DmaconOk 0 from (by decide : (0 : Word) &&& 0xF800 = 0)
    audio := fun n _ => hchan n
    disk := fun hk _ => ⟨⟨(Config.wf_track hk).2.1, rfl⟩, fun ha => nomatch ha⟩
    drives := fun hk d _ => hdrive hk d
    ciaDiv := fun _ => show (0 : BitVec 4).toNat < 10 by decide
    ciaA := fun _ => show CiaOk Cia.initial from ⟨by decide, by decide⟩
    ciaB := fun _ => show CiaOk Cia.initial from ⟨by decide, by decide⟩ }

theorem hostCall_keepsOrder (op : HostOp) : KeepsOrder (hostCall op) := by
  intro s
  have hempty : Kept s (s.withOut StepOut.empty) := (Kept.refl s).withOut _
  cases op with
  | tick wants pc => exact tick_keepsOrder wants s
  | reset => exact .next (kept_resetAgain s)
  | customRead width off => exact (withBus_keepsOrder (customRead_keepsOrder width off)).of_kept hempty
  | customWrite width off v => exact (withBus_keepsOrder (customWrite_keepsOrder width off v)).of_kept hempty
  | ciaRead i r => exact .next ((hempty.ciaReadEffect i r).withOut _)
  | ciaWrite i r v => exact .next (hempty.ciaWrite i r v)
  | chipRead width a => exact (withBus_keepsOrder (chipRead_keepsOrder width a)).of_kept hempty
  | chipWrite width a v => exact (withBus_keepsOrder (chipWrite_keepsOrder width a v)).of_kept hempty
  | cpuRead width a => exact (cpuRead_keepsOrder width a).of_kept hempty
  | cpuWrite width a v => exact (cpuWrite_keepsOrder width a v).of_kept hempty
  | currentIpl => exact .next (hempty.withOut _)
  | insertMedium d m => exact (mediaCall_keepsOrder d (some m)).of_kept hempty
  | ejectMedium d => exact (mediaCall_keepsOrder d none).of_kept hempty

theorem step_keepsOrder : KeepsOrder step := by
  intro s
  unfold step
  split
  · exact tick_keepsOrder false s
  · exact (hostCall_keepsOrder _).of_kept ((Kept.refl s).withHost _)

/-- Every next state of a step keeps each block that is in order. -/
theorem step_kept {s t : State} (h : step s = .next t) : Kept s t := (h ▸ step_keepsOrder s).of_next

/-- Settles O59: every part of a step keeps each block in order, and only a blitter that is not in order could leave its
pattern. -/
theorem stepKeepsBeamCopperAndBlitterInOrder : Obligations.StepKeepsBeamCopperAndBlitterInOrder := by
  unfold Obligations.StepKeepsBeamCopperAndBlitterInOrder
  intro s hk hbeam hcop hblt
  have hblt := blitterInv_iff.1 hblt
  refine ⟨fun hfault => (hfault ▸ step_keepsOrder s).of_unreachable hk hblt, fun t ht => ?_⟩
  have hkept := step_kept ht
  rw [beamInv_iff, copperInv_iff, blitterInv_iff, hkept.cfg]
  exact ⟨hkept.beam hk (beamInv_iff.1 hbeam), hkept.copper (copperInv_iff.1 hcop), hkept.blitter hk hblt⟩

/-- Settles O60: each invariant speaks of blocks that every step keeps in order. -/
theorem stepKeepsControlAudioDiskDriveAndCiaBounds : Obligations.StepKeepsControlAudioDiskDriveAndCiaBounds := by
  unfold Obligations.StepKeepsControlAudioDiskDriveAndCiaBounds
  intro s t hk ht
  have hkept := step_kept ht
  simp only [controlInv_iff, audioInv_iff, diskInv_iff, driveInv_iff, ciaInv_iff, hkept.cfg]
  exact ⟨fun ⟨hq, hd⟩ => ⟨hkept.levels hk hq, hkept.dmacon hd⟩, fun h n => hkept.audio n (h n), hkept.disk hk,
    fun h d => hkept.drives hk d (h d), fun ⟨hdiv, ha, hb⟩ => ⟨hkept.ciaDiv hdiv, hkept.ciaA ha, hkept.ciaB hb⟩⟩

end Sys2Proof.Machine
end

section
/-! The register file (R31, R32): set/clear writes (R16), pointer halves (R80) and the default register map. -/

namespace Sys2Proof.Machine

/-! ### Set/clear writes -/

/-- A set/clear write of a register all of whose bits are writable gives each bit that is 1 in `v` the value of bit 15. -/
theorem getLsbD_setClear_allOnes {w : Nat} (old : BitVec w) (v : Word) (i : Fin w) :
    (setClear (BitVec.allOnes w) old v).getLsbD i = if v.getLsbD i then v.getLsbD 15 else old.getLsbD i := by
  rw [getLsbD_setClear _ _ _ _ i.isLt]
  simp

/-- The writable bits of `dmacon` are 10 .. 0 (R16). -/
theorem getLsbD_dmaconMask (b : Fin 16) : dmaconMask.getLsbD b = decide (b.val ≤ 10) := by
  revert b
  decide

/-- Settles O19: bit by bit, by the rule of a set/clear write. -/
theorem setClearWritesChangeExactlyTheNamedBits : Obligations.SetClearWritesChangeExactlyTheNamedBits := by
  unfold Obligations.SetClearWritesChangeExactlyTheNamedBits
  intro v s
  refine ⟨⟨writeDmacon v s, rfl, rfl, fun b => ?_⟩, ⟨_, rfl, fun b => ?_⟩, ⟨_, rfl, fun b => ?_⟩, ⟨_, rfl, fun b => ?_⟩⟩
  · show (setClear dmaconMask s.dmacon v).getLsbD b = _
    rw [getLsbD_setClear _ _ _ _ b.isLt, getLsbD_dmaconMask]
    simp only [Bool.and_eq_true, decide_eq_true_eq]
  · exact getLsbD_setClear_allOnes s.irq.intena v b
  · exact getLsbD_setClear_allOnes s.irq.intreq v b
  · exact getLsbD_setClear_allOnes s.adkcon v b

/-! ### Pointer halves -/

theorem toNat_setHigh (p : Long) (v : Word) : (setHigh p v).toNat = 65536 * v.toNat + p.toNat % 65536 := by
  have hlow : (p.extractLsb' 0 16).toNat = p.toNat % 65536 := by simp [BitVec.extractLsb'_toNat]
  rw [setHigh, BitVec.toNat_append, ← Nat.shiftLeft_add_eq_or_of_lt (BitVec.isLt _), Nat.shiftLeft_eq, hlow, Nat.mul_comm]

theorem toNat_setLow (p : Long) (v : Word) : (setLow p v).toNat = 65536 * (p.toNat / 65536) + v.toNat := by
  have hhigh : (p.extractLsb' 16 16).toNat = p.toNat / 65536 := by
    rw [BitVec.extractLsb'_toNat, Nat.shiftRight_eq_div_pow, Nat.mod_eq_of_lt (by have := p.isLt; omega)]
  rw [setLow, BitVec.toNat_append, ← Nat.shiftLeft_add_eq_or_of_lt (BitVec.isLt _), Nat.shiftLeft_eq, hhigh, Nat.mul_comm]

/-- Settles O25: each register's rule sets one half, and the halves are the two digits of the pointer to base 65536. -/
theorem pointerHalfWritesKeepTheOtherHalf : Obligations.PointerHalfWritesKeepTheOtherHalf := by
  unfold Obligations.PointerHalfWritesKeepTheOtherHalf
  intro v p n s
  exact ⟨fun a => ⟨toNat_setHigh a v, toNat_setLow a v⟩, rfl, rfl, rfl, rfl, rfl, rfl, rfl, rfl, rfl, rfl⟩

/-! ### The default register map -/

/-- An offset is taken modulo 512 with bit 0 ignored (R66). -/
theorem regAt_mirror (k : Config) (off : Word) : regAt k off = regAt k (off &&& 0x01FE) := by
  have hidem : regOffset (off &&& 0x01FE) = regOffset off := by
    simp only [regOffset, BitVec.and_assoc, BitVec.and_self]
  rw [regAt, regAt, hidem]

/-- Settles O28: each row of the table of R32, and each even offset that no row names, is looked up in the finite map. -/
theorem defaultRegisterMapPutsTheRegistersAtTheirOffsets :
    Obligations.DefaultRegisterMapPutsTheRegistersAtTheirOffsets := by
  unfold Obligations.DefaultRegisterMapPutsTheRegistersAtTheirOffsets
  refine ⟨?read, ?disk, ?blitter, ?blitterPointers, ?blitterModulos, ?copper, ?control, ?bplcon, ?audio, ?planes, ?spritePointers,
    ?sprites, ?colors, ?others, ?mirror⟩
  case others => decide +kernel
  case mirror => exact regAt_mirror _
  all_goals decide

end Sys2Proof.Machine
end

section
/-! DMA accesses and the host's chip-bus accesses (R63, R80, R82, U13). -/

namespace Sys2Proof.Machine

/-! ### DMA accesses -/

theorem dmaInRange_iff {s : State} {p : Long} : dmaInRange s p ↔ dmaAddr s p + 1 < s.cfg.chipMemBytes := by
  simp [dmaInRange]

theorem Mem.read_writeWord_high (m : Memory) (a : Nat) (v : Word) (h : Mem.wf m) :
    Mem.read (Mem.writeWord m a v) a = v.extractLsb' 8 8 := by
  rw [Mem.writeWord, Mem.read_write_ne _ _ _ _ (by omega), Mem.read_write_same _ _ _ h]

theorem Mem.read_writeWord_low (m : Memory) (a : Nat) (v : Word) (h : Mem.wf m) :
    Mem.read (Mem.writeWord m a v) (a + 1) = v.extractLsb' 0 8 :=
  Mem.read_write_same _ _ _ (Mem.wf_write _ _ _ h)

/-- The sum that a pointer sum goes on with is the one in unbounded integers (R80). -/
theorem toNat_ptrSum {p : Long} {k : Int} (h : ptrFits p k) : ((p + BitVec.ofInt 32 k).toNat : Int) = p.toNat + k := by
  obtain ⟨hlo, hhi⟩ := h
  rw [← ptrSum_eq ⟨hlo, hhi⟩, BitVec.toNat_ofNat, Nat.mod_eq_of_lt (by omega), Int.toNat_of_nonneg hlo]

/-- Settles O29: each access by the test that it makes. -/
theorem dmaAccessesOutsideMemoryOrContainerFault : Obligations.DmaAccessesOutsideMemoryOrContainerFault := by
  unfold Obligations.DmaAccessesOutsideMemoryOrContainerFault
  intro p v j f g s
  refine ⟨fun h => withMemRead_of_inRange (dmaInRange_iff.2 h) f, fun h => ?_, fun h hwf => ?_, fun h => ?_, fun h => if_neg h⟩
  · have hout : ¬ dmaInRange s p := fun hr => Nat.not_lt.2 h (dmaInRange_iff.1 hr)
    exact ⟨if_neg hout, if_neg hout⟩
  · exact ⟨_, memWrite_of_inRange (dmaInRange_iff.2 h) v, Mem.read_writeWord_high _ _ _ hwf, Mem.read_writeWord_low _ _ _ hwf,
      fun b => Mem.read_writeWord_ne _ _ b v⟩
  · exact ⟨_, toNat_ptrSum h, withPtrAdd_of_fits h g⟩

/-! ### The chip bus -/

theorem withBus_granted {s : State} (h : s.cpuGrant) (k : State → Result) : withBus s k = k (s.withCpuGrant false) := if_pos h

theorem withBus_notGranted {s : State} (h : s.cpuGrant = false) (k : State → Result) :
    withBus s k = .refused .busContract := by
  simp [withBus, h]

/-- The end of a tick grants the CPU the slot that it asked for and that was free (R82). -/
theorem tickEnd_cpuGrant (wants : Bool) (s : State) : (tickEnd wants s).cpuGrant = ((tickEnd wants s).out.freeCycle && wants) :=
  rfl

/-- Settles O31: the four calls go through the test of the grant, and the end of a tick sets it. -/
theorem chipBusAccessNeedsAGrantedFreeCycle : Obligations.ChipBusAccessNeedsAGrantedFreeCycle := by
  unfold Obligations.ChipBusAccessNeedsAGrantedFreeCycle
  refine ⟨fun width off a v s => ⟨fun h => ?_, fun h => ?_⟩, fun wants s t ht => ?_⟩
  · have hrefused : ∀ k, withBus (s.withOut StepOut.empty) k = .refused .busContract := withBus_notGranted h
    exact ⟨hrefused _, hrefused _, hrefused _, hrefused _⟩
  · have honce : ∀ k, withBus (s.withOut StepOut.empty) k = k ((s.withOut StepOut.empty).withCpuGrant false) :=
      withBus_granted h
    exact ⟨honce _, honce _, honce _, honce _⟩
  · obtain ⟨u, -, hu⟩ := (andThen_eq_next_iff _ _ _).1 ht
    exact Host.Outcome.next.inj hu ▸ tickEnd_cpuGrant wants _

end Sys2Proof.Machine
end

section
/-! The register window: what each read gives (R67 to R69, R287), and the CPU's accesses to it beside the copper's MOVE (R66, R70). -/

namespace Sys2Proof.Machine

/-! ### Register reads -/

theorem toNat_append_eq {n m : Nat} (x : BitVec n) (y : BitVec m) : (x ++ y).toNat = 2 ^ m * x.toNat + y.toNat := by
  rw [BitVec.toNat_append, ← Nat.shiftLeft_add_eq_or_of_lt y.isLt, Nat.shiftLeft_eq, Nat.mul_comm]

theorem vposrValue_eq (s : State) :
    vposrValue s = BitVec.ofNat 16 (32768 * s.beam.lof.toNat + s.beam.vpos.toNat / 256 % 2) := by
  apply BitVec.eq_of_toNat_eq
  simp only [vposrValue, toNat_append_eq, BitVec.toNat_ofBool, BitVec.extractLsb'_toNat, BitVec.toNat_ofNat,
    Nat.shiftRight_eq_div_pow]
  cases s.beam.lof <;> simp <;> omega

theorem vhposrValue_eq (s : State) :
    vhposrValue s = BitVec.ofNat 16 (256 * (s.beam.vpos.toNat % 256) + s.beam.hpos.toNat / 2 % 256) := by
  apply BitVec.eq_of_toNat_eq
  simp only [vhposrValue, State.cc, toNat_append_eq, BitVec.extractLsb'_toNat, BitVec.toNat_ushiftRight, BitVec.toNat_ofNat,
    Nat.shiftRight_eq_div_pow]
  omega

theorem getLsbD_dmaconrValue (s : State) (b : Fin 16) :
    (dmaconrValue s).getLsbD b =
      if b.val = 14 then s.blt.busy else if b.val = 13 then s.blt.zero else b.val ≤ 10 && s.dmacon.getLsbD b := by
  unfold dmaconrValue
  rw [getLsbD_setBit _ _ _ _ b.isLt, getLsbD_setBit _ _ _ _ b.isLt, BitVec.getLsbD_and, getLsbD_dmaconMask, Bool.and_comm]
  by_cases h14 : b.val = 14 <;> by_cases h13 : b.val = 13 <;> simp [h14, h13]

theorem getLsbD_dskbytrValue (s : State) (b : Fin 16) :
    (dskbytrValue s).getLsbD b =
      if b.val = 14 then s.dsk.active && s.dmaOn dmaDsk else if b.val = 13 then s.dsk.writing
      else b.val = 12 && dskWordEqual s := by
  unfold dskbytrValue
  simp only [getLsbD_setBit _ _ _ _ b.isLt]
  by_cases h14 : b.val = 14 <;> by_cases h13 : b.val = 13 <;> by_cases h12 : b.val = 12 <;> simp [h14, h13, h12]

theorem regRead_of_regValue {s : State} {off : Word} {r : Reg} {x : Word} (hr : regAt s.cfg off = some r)
    (hx : regValue r s = some x) : regRead off s = x := by
  simp [regRead, hr, hx]

theorem regRead_of_noValue {s : State} {off : Word} (h : ((regAt s.cfg off).bind fun r => regValue r s) = none) :
    regRead off s = s.cfg.regFiller := by
  cases hr : regAt s.cfg off with
  | none => simp [regRead, hr]
  | some r =>
    rw [hr, Option.bind_some] at h
    simp [regRead, hr, h]

/-- A register with a value to read has no write rule: the seven registers of R67. -/
theorem regWriteReg_readable {r : Reg} {s : State} (h : (regValue r s).isSome) (v : Word) : regWriteReg r v s = .next s := by
  cases r with
  | dmaconr | vposr | vhposr | adkconr | dskbytr | intenar | intreqr => rfl
  | _ => cases h

theorem regWrite_of_noReg {s : State} {off : Word} (h : regAt s.cfg off = none) (v : Word) : regWrite off v s = .next s := by
  simp [regWrite, h]

/-- Settles O26: the value of each readable register, and the two ways past the register map. -/
theorem registerReadsGiveTheDefinedValueOrTheFiller : Obligations.RegisterReadsGiveTheDefinedValueOrTheFiller := by
  unfold Obligations.RegisterReadsGiveTheDefinedValueOrTheFiller
  intro s
  exact ⟨congrArg some (vposrValue_eq s), congrArg some (vhposrValue_eq s), ⟨_, rfl, getLsbD_dmaconrValue s⟩,
    ⟨_, rfl, getLsbD_dskbytrValue s⟩, rfl, rfl, rfl, fun _ => regRead_of_noValue, fun _ _ _ => regRead_of_regValue,
    fun _ v h => regWrite_of_noReg h v, fun _ v h => regWriteReg_readable h v⟩

/-! ### CPU accesses -/

/-- A write reaches the same register at every mirror (R66). -/
theorem regWrite_mirror (off v : Word) (s : State) : regWrite (off &&& 0x01FE) v s = regWrite off v s := by
  rw [regWrite, regWrite, ← regAt_mirror]

theorem regOffset_mirror (off : Word) : regOffset (off &&& 0x01FE) = off &&& 0x01FE := by
  simp only [regOffset, BitVec.and_assoc, BitVec.and_self]

/-- A MOVE that is neither protected nor marked writes its register (R246, R247). -/
theorem execMove_eq_regWrite {off : Word} {s : State} (data : Word) (hskip : s.cop.skipNext = false)
    (hsafe : copperThreshold s ≤ regOffset off) : execMove off data s = regWrite off data s := by
  have hlt : ¬ regOffset off < copperThreshold s := BitVec.not_lt.2 hsafe
  simp [execMove, hlt, hskip]

/-- An access at an odd offset that is wider than a byte is refused (R70). -/
theorem custom_odd {width : Width} {off : Word} (hw : width ≠ .byte) (h : off.getLsbD 0) (v : Long) (s : State) :
    customWrite width off v s = .refused .customOddAccess ∧ customRead width off s = .refused .customOddAccess := by
  cases width with
  | byte => exact absurd rfl hw
  | word | long => exact ⟨if_pos h, if_pos h⟩

section
variable {off : Word} (h : off.getLsbD 0 = false) (v : Long) (s : State)
include h

theorem customWrite_word_even : customWrite .word off v s = regWrite off (v.extractLsb' 0 16) s :=
  if_neg (Bool.eq_false_iff.1 h)

theorem customRead_word_even : customRead .word off s = .next (s.replied ((regRead off s).setWidth 32)) :=
  if_neg (Bool.eq_false_iff.1 h)

theorem customRead_long_even : customRead .long off s = .next (s.replied (regRead off s ++ regRead (off + 2) s)) :=
  if_neg (Bool.eq_false_iff.1 h)

/-- A long write is two word writes, the high half first (R70). -/
theorem customWrite_long_even :
    customWrite .long off v s = andThen (customWrite .word off (v >>> 16) s) fun u => customWrite .word (off + 2) v u := by
  have hnext : (off + 2).getLsbD 0 = false := by
    rw [← h, BitVec.getLsbD_add (by decide)]
    simp
  have hhigh : (v >>> 16).extractLsb' 0 16 = v.extractLsb' 16 16 := by ext i hi; simp
  simp only [customWrite_word_even h, customWrite_word_even hnext, hhigh]
  exact if_neg (Bool.eq_false_iff.1 h)

end

/-- Settles O27: both are the register write at the offset's nine bits; the other forms by their width and alignment. -/
theorem cpuRegisterAccessesMatchCopperMoves : Obligations.CpuRegisterAccessesMatchCopperMoves := by
  unfold Obligations.CpuRegisterAccessesMatchCopperMoves
  intro unused off v s
  refine ⟨fun h hskip hsafe => ?_, rfl, rfl, fun h => ?_, fun h => ?_⟩
  · have hthreshold : copperThreshold s ≤ regOffset (off &&& 0x01FE) := by
      rw [regOffset_mirror]
      exact hsafe
    calc customWrite .word off v s = regWrite off (v.extractLsb' 0 16) s := customWrite_word_even h v s
      _ = regWrite (off &&& 0x01FE) (v.extractLsb' 0 16) s := (regWrite_mirror _ _ _).symm
      _ = execMove (off &&& 0x01FE) (v.extractLsb' 0 16) s := (execMove_eq_regWrite _ hskip hthreshold).symm
  · obtain ⟨hww, hwr⟩ := custom_odd (width := .word) (by decide) h v s
    obtain ⟨hlw, hlr⟩ := custom_odd (width := .long) (by decide) h v s
    exact ⟨hww, hlw, hwr, hlr⟩
  · exact ⟨customWrite_word_even h v s, customRead_word_even h s, customRead_long_even h s, customWrite_long_even h v s⟩

end Sys2Proof.Machine
end

section
/-! CPU accesses to chip memory and the ROM (R60 to R64, R72): both are big-endian accesses to a run of bytes. -/

namespace Sys2Proof.Machine

/-! ### The value of an access -/

/-- The value that an access of a width has on the bytes `f 0`, `f 1`, … in address order (`chipRead_eq`, `romValue_eq`). -/
def Width.value (width : Width) (f : Nat → Byte) : Long :=
  match width with
  | .byte => (f 0).setWidth 32
  | .word => (f 0 ++ f 1).setWidth 32
  | .long => (f 0 ++ f 1) ++ (f 2 ++ f 3)

/-- Byte `j` of the value, in address order, of an access of a width (R62). -/
def Width.byteOf (width : Width) (v : Long) (j : Nat) : Byte := v.extractLsb' (8 * (width.bytes - 1 - j)) 8

theorem Width.value_lt (width : Width) (f : Nat → Byte) : (width.value f).toNat < 2 ^ (8 * width.bytes) := by
  cases width with
  | byte =>
    rw [Width.value, BitVec.toNat_setWidth_of_le (by decide)]
    exact (f 0).isLt
  | word =>
    rw [Width.value, BitVec.toNat_setWidth_of_le (by decide)]
    exact (f 0 ++ f 1).isLt
  | long => exact (Width.value .long f).isLt

theorem Width.byteOf_value (width : Width) (f : Nat → Byte) (j : Nat) (hj : j < width.bytes) :
    width.byteOf (width.value f) j = f j := by
  cases width with
  | byte =>
    obtain rfl : j = 0 := Nat.lt_one_iff.1 hj
    exact (BitVec.extractLsb'_setWidth_of_le (by decide)).trans BitVec.extractLsb'_eq_self
  | word =>
    have hword : ∀ n, n + 8 ≤ 32 → (Width.value .word f).extractLsb' n 8 = (f 0 ++ f 1).extractLsb' n 8 := fun _ hn =>
      BitVec.extractLsb'_setWidth_of_le hn
    match j, hj with
    | 0, _ => exact (hword 8 (by decide)).trans BitVec.extractLsb'_append_eq_left
    | 1, _ => exact (hword 0 (by decide)).trans BitVec.extractLsb'_append_eq_right
  | long =>
    have hhigh : ∀ n, (Width.value .long f).extractLsb' (16 + n) 8 = (f 0 ++ f 1).extractLsb' (16 + n - 16) 8 := fun _ =>
      BitVec.extractLsb'_append_eq_of_le (Nat.le_add_right ..)
    have hlow : ∀ n, n + 8 ≤ 16 → (Width.value .long f).extractLsb' n 8 = (f 2 ++ f 3).extractLsb' n 8 := fun _ hn =>
      BitVec.extractLsb'_append_eq_of_add_le hn
    match j, hj with
    | 0, _ => exact (hhigh 8).trans BitVec.extractLsb'_append_eq_left
    | 1, _ => exact (hhigh 0).trans BitVec.extractLsb'_append_eq_right
    | 2, _ => exact (hlow 8 (by decide)).trans BitVec.extractLsb'_append_eq_left
    | 3, _ => exact (hlow 0 (by decide)).trans BitVec.extractLsb'_append_eq_right

theorem Width.value_congr {width : Width} {f g : Nat → Byte} (h : ∀ j, j < width.bytes → f j = g j) :
    width.value f = width.value g := by
  cases width with
  | byte => simp only [Width.value, h 0 (by decide)]
  | word => simp only [Width.value, h 0 (by decide), h 1 (by decide)]
  | long => simp only [Width.value, h 0 (by decide), h 1 (by decide), h 2 (by decide), h 3 (by decide)]

/-- The bytes of a value give the value back, cut to the width. -/
theorem Width.value_byteOf (width : Width) (v : Long) :
    width.value (width.byteOf v) = BitVec.ofNat 32 (v.toNat % 2 ^ (8 * width.bytes)) := by
  have hvalue : width.value (width.byteOf v) = (v.extractLsb' 0 (8 * width.bytes)).setWidth 32 := by
    cases width with
    | byte => rfl
    | word =>
      simp only [Width.value, Width.byteOf, Width.bytes]
      rw [BitVec.extractLsb'_append_extractLsb'_eq_extractLsb' (by decide)]
    | long =>
      simp only [Width.value, Width.byteOf, Width.bytes]
      rw [BitVec.extractLsb'_append_extractLsb'_eq_extractLsb' (by decide),
        BitVec.extractLsb'_append_extractLsb'_eq_extractLsb' (by decide),
        BitVec.extractLsb'_append_extractLsb'_eq_extractLsb' (by decide)]
      simp
  rw [hvalue]
  apply BitVec.eq_of_toNat_eq
  simp

/-! ### Runs of bytes -/

theorem Mem.read_writeBytes_ne (m : Memory) (a b : Nat) (bytes : List Byte) (h : b < a ∨ a + bytes.length ≤ b) :
    Mem.read (Mem.writeBytes m a bytes) b = Mem.read m b := by
  induction bytes generalizing m a with
  | nil => rfl
  | cons v vs ih =>
    rw [List.length_cons] at h
    rw [Mem.writeBytes, ih _ _ (by omega), Mem.read_write_ne _ _ _ _ (by omega)]

theorem Mem.read_writeBytes (m : Memory) (a : Nat) (bytes : List Byte) (hm : Mem.wf m) (j : Nat) (hj : j < bytes.length) :
    Mem.read (Mem.writeBytes m a bytes) (a + j) = bytes[j] := by
  induction bytes generalizing m a j with
  | nil => cases hj
  | cons v vs ih =>
    cases j with
    | zero => exact (Mem.read_writeBytes_ne _ _ _ vs (.inl (by omega))).trans (Mem.read_write_same _ _ _ hm)
    | succ j =>
      have hj' : j < vs.length := Nat.lt_of_succ_lt_succ hj
      have ih := ih (Mem.write m a v) (a + 1) (Mem.wf_write _ _ _ hm) j hj'
      rw [Nat.add_right_comm] at ih
      exact ih

/-! ### Chip memory -/

/-- An access of a width is aligned: a byte, or at an even address (R64). -/
def Aligned (width : Width) (a : Long) : Prop := width = .byte ∨ a.getLsbD 0 = false

theorem aligned_iff {width : Width} {a : Long} : Aligned width a ↔ ¬ (width ≠ .byte ∧ a.getLsbD 0) := by
  unfold Aligned
  rw [← Bool.not_eq_true]
  tauto

theorem withChipAddr_of_inside {width : Width} {a : Long} {s : State} (ha : Aligned width a)
    (hin : a.toNat + width.bytes ≤ s.cfg.chipMemBytes) (k : Nat → Result) : withChipAddr width a s k = k a.toNat := by
  rw [withChipAddr, if_neg (aligned_iff.1 ha), if_neg (Nat.not_lt.2 hin)]

theorem withChipAddr_of_outside {width : Width} {a : Long} {s : State} (ha : Aligned width a)
    (hout : s.cfg.chipMemBytes < a.toNat + width.bytes) (k : Nat → Result) :
    withChipAddr width a s k = .refused .outsideWindows := by
  rw [withChipAddr, if_neg (aligned_iff.1 ha), if_pos hout]

theorem withChipAddr_of_misaligned {width : Width} {a : Long} (hw : width ≠ .byte) (ha : a.getLsbD 0) (s : State)
    (k : Nat → Result) : withChipAddr width a s k = .refused .cpuMisaligned := if_pos ⟨hw, ha⟩

/-- A read replies the value of the bytes from the address on. -/
theorem chipRead_eq (width : Width) (a : Long) (s : State) :
    chipRead width a s = withChipAddr width a s fun n => .next (s.replied (width.value fun j => Mem.read s.mem (n + j))) := by
  cases width <;> rfl

/-- The bytes of the value of an access, in address order. -/
def Width.bytesOf (width : Width) (v : Long) : List Byte := (List.range width.bytes).map (width.byteOf v)

theorem Width.length_bytesOf (width : Width) (v : Long) : (width.bytesOf v).length = width.bytes := by
  simp [Width.bytesOf]

theorem Width.getElem_bytesOf (width : Width) (v : Long) (j : Nat) (hj : j < (width.bytesOf v).length) :
    (width.bytesOf v)[j] = width.byteOf v j := by
  simp [Width.bytesOf]

/-- A write puts the bytes of the value from the address on. -/
theorem chipWrite_eq (width : Width) (a v : Long) (s : State) :
    chipWrite width a v s
      = withChipAddr width a s fun n => .next (s.withMem (Mem.writeBytes s.mem n (width.bytesOf v))) := by
  have hbyte : ∀ i j, j + 8 ≤ 16 → (v.extractLsb' i 16).extractLsb' j 8 = v.extractLsb' (i + j) 8 := by
    intro i j hj
    ext b hb
    simp only [BitVec.getElem_extractLsb', BitVec.getLsbD_extractLsb', Nat.add_assoc]
    simp
    omega
  cases width with
  | byte => rfl
  | word | long =>
    simp [chipWrite, Mem.writeWord, Width.bytesOf, Width.byteOf, Width.bytes, hbyte, List.range_succ, Mem.writeBytes]

/-! ### The ROM and its overlay -/

theorem romValue_eq (width : Width) (k : Config) (off : Nat) :
    romValue width k off = width.value fun j => romByte k (off + j) := by
  cases width <;> rfl

theorem withRomAligned_of_aligned {width : Width} {a : Long} (h : Aligned width a) (r : Result) :
    withRomAligned width a r = r := if_neg (aligned_iff.1 h)

/-- An address outside the custom, CIA and ROM windows (R61, R71). -/
structure OutsideDeviceWindows (k : Config) (a : Nat) : Prop where
  custom : ¬ (k.customBase ≤ a ∧ a < k.customBase + k.customSize)
  cia : ciaAnswers k a = false
  rom : ¬ (k.romBase ≤ a ∧ a < k.romBase + k.romSize)

/-- There the overlay answers, while it is on, before chip memory does (R72). -/
theorem OutsideDeviceWindows.windowOf {s : State} {a : Long} (h : OutsideDeviceWindows s.cfg a.toNat) :
    windowOf s a =
      if ovl s ∧ a.toNat < s.cfg.overlaySize then .rom a.toNat else if a.toNat < s.cfg.chipMemBytes then .chip else .outside := by
  rw [Machine.windowOf, if_neg h.custom, if_neg (by simp [h.cia]), if_neg h.rom]

section
variable {s : State} {a : Long} (h : OutsideDeviceWindows s.cfg a.toNat) (width : Width) (v : Long)
include h

/-- With the overlay off, an address in chip memory reaches chip memory. -/
theorem OutsideDeviceWindows.chip (hovl : ovl s = false) (ha : a.toNat < s.cfg.chipMemBytes) :
    cpuRead width a s = withBus s (chipRead width a) ∧ cpuWrite width a v s = withBus s (chipWrite width a v) := by
  have hchip : Machine.windowOf s a = .chip := by
    rw [h.windowOf, if_neg (by simp [hovl]), if_pos ha]
  simp only [cpuRead, cpuWrite, hchip, and_self]

/-- With the overlay on, an address in its range reaches the ROM, which ignores a write. -/
theorem OutsideDeviceWindows.overlay (hovl : ovl s) (ha : a.toNat < s.cfg.overlaySize) (hal : Aligned width a) :
    cpuRead width a s = .next (s.replied (width.value fun j => romByte s.cfg (a.toNat + j))) ∧ cpuWrite width a v s = .next s := by
  have hrom : Machine.windowOf s a = .rom a.toNat := by
    rw [h.windowOf, if_pos ⟨hovl, ha⟩]
  simp only [cpuRead, cpuWrite, hrom, withRomAligned_of_aligned hal, romValue_eq, and_self]

end

/-! ### What was written is read back -/

section
variable {s : State} {width : Width} {a : Long} (v : Long) (hmem : Mem.wf s.mem)
include hmem

theorem read_writeBytes_bytesOf (j : Nat) (hj : j < width.bytes) :
    Mem.read (Mem.writeBytes s.mem a.toNat (width.bytesOf v)) (a.toNat + j) = width.byteOf v j := by
  have hlen : j < (width.bytesOf v).length := by rw [Width.length_bytesOf]; exact hj
  rw [Mem.read_writeBytes _ _ _ hmem _ hlen, Width.getElem_bytesOf]

theorem chipRead_of_chipWrite (ha : Aligned width a) (hin : a.toNat + width.bytes ≤ s.cfg.chipMemBytes) :
    let t := s.withMem (Mem.writeBytes s.mem a.toNat (width.bytesOf v))
    chipRead width a t = .next (t.replied (BitVec.ofNat 32 (v.toNat % 2 ^ (8 * width.bytes)))) := by
  intro t
  have hread : (width.value fun j => Mem.read t.mem (a.toNat + j)) = width.value (width.byteOf v) :=
    Width.value_congr fun j hj => read_writeBytes_bytesOf v hmem j hj
  rw [chipRead_eq, withChipAddr_of_inside (s := t) ha hin, hread, Width.value_byteOf]

end

/-- Settles O30: a write puts the bytes of the value, and a read takes its value from them; which memory answers is decided by
the address and `ovl`. -/
theorem chipMemoryReadsBackWhatTheCpuWrote : Obligations.ChipMemoryReadsBackWhatTheCpuWrote := by
  unfold Obligations.ChipMemoryReadsBackWhatTheCpuWrote
  intro width a v s hmem
  refine ⟨fun ha hin => ?_, fun hw ha => ?_, fun ha hout => ?_, fun hcustom hcia hrom => ?_⟩
  · refine ⟨_, ?_, Mem.wf_writeBytes s.mem a.toNat (width.bytesOf v) hmem, read_writeBytes_bytesOf v hmem, fun b hb => ?_,
      chipRead_of_chipWrite v hmem ha hin⟩
    · rw [chipWrite_eq, withChipAddr_of_inside ha hin]
      rfl
    · exact Mem.read_writeBytes_ne _ _ _ _ (by rw [Width.length_bytesOf]; exact hb)
  · exact ⟨withChipAddr_of_misaligned hw ha s _, withChipAddr_of_misaligned hw ha s _⟩
  · exact ⟨withChipAddr_of_outside ha hout _, withChipAddr_of_outside ha hout _⟩
  · have hwin : OutsideDeviceWindows (s.withOut StepOut.empty).cfg a.toNat := ⟨hcustom, hcia, hrom⟩
    refine ⟨fun hovl hin => hwin.chip width v hovl hin, fun hovl hin hal => ?_⟩
    obtain ⟨hread, hwrite⟩ := hwin.overlay width v hovl hin hal
    exact ⟨hwrite, _, hread, Width.value_lt _ _, Width.byteOf_value _ _⟩

end Sys2Proof.Machine
end

section
/-! The length of an encoded track (R298, R301): it fills the track buffer exactly. -/

namespace Sys2Proof.Machine

theorem length_emitHalves (last : Bool) (xs : List Long) : (emitHalves last xs).bytes.length = 4 * xs.length := by
  induction xs generalizing last with
  | nil => rfl
  | cons x xs ih =>
    simp only [emitHalves, List.length_append, ih, bytesOfLong, List.length_cons, List.length_nil]
    omega

theorem length_emitSplit (last : Bool) (xs : List Long) : (emitSplit last xs).bytes.length = 8 * xs.length := by
  simp only [emitSplit, List.length_append, length_emitHalves, List.length_map]
  omega

theorem length_emitZeroBytes (last : Bool) (n : Nat) : (emitZeroBytes last n).bytes.length = 2 * n := by
  induction n generalizing last with
  | zero => rfl
  | succ n ih =>
    simp only [emitZeroBytes, List.length_append, ih, List.length_cons, List.length_nil]
    omega

/-- A sector frame of 128 longwords is 1088 bytes long (R108). -/
theorem length_encodeSector (checksumFirst : Bool) (track sector : Nat) {data : List Long} (hd : data.length = 128) (last : Bool) :
    (encodeSector checksumFirst track sector data last).bytes.length = sectorMfmBytes := by
  unfold encodeSector
  dsimp only
  split <;> simp only [List.length_append, length_emitZeroBytes, length_emitSplit, syncBytes, hd, List.length_cons,
    List.length_nil, sectorMfmBytes]

theorem length_encodeSectors (checksumFirst : Bool) (track : Nat) (secs : List (List Long)) (hs : ∀ d ∈ secs, d.length = 128)
    (s : Nat) (last : Bool) :
    (encodeSectors checksumFirst track s secs last).bytes.length = secs.length * sectorMfmBytes := by
  induction secs generalizing s last with
  | nil => simp [encodeSectors]
  | cons d rest ih =>
    rw [List.forall_mem_cons] at hs
    simp only [encodeSectors, List.length_append, List.length_cons, length_encodeSector _ _ _ hs.1, ih hs.2, Nat.succ_mul]
    exact Nat.add_comm _ _

theorem length_fixFirstCell (last : Bool) (bytes : List Byte) : (fixFirstCell last bytes).length = bytes.length := by
  cases bytes <;> rfl

theorem length_sectorLongs (image : Memory) (c h s : Nat) : (sectorLongs image c h s).length = 128 := by
  simp [sectorLongs]

theorem length_fitTrack (n : Nat) (bytes : List Byte) : (fitTrack n bytes).length = n := by
  simp only [fitTrack, List.length_append, List.length_take, List.length_replicate]
  omega

/-- The eleven sectors of an image's track fit into the buffer, and the gap fills the rest (R298). -/
theorem length_encodeTrack {k : Config} (hk : k.wf) (c h : Nat) {secs : List (List Long)} (hn : secs.length = sectorsPerTrack)
    (hs : ∀ d ∈ secs, d.length = 128) : (encodeTrack k c h secs).length = k.mfmTrackBytes := by
  have hfit : sectorsPerTrack * sectorMfmBytes ≤ k.mfmTrackBytes := by
    simp only [Config.wf, Config.sizesOk, Bool.and_eq_true, decide_eq_true_eq] at hk
    omega
  obtain ⟨heven, -, -⟩ := Config.wf_track hk
  simp only [encodeTrack, length_fixFirstCell, List.length_append, length_encodeSectors _ _ _ hs, length_emitZeroBytes, hn]
  simp only [sectorsPerTrack, sectorMfmBytes] at hfit ⊢
  omega

theorem Medium.length_readTrack {k : Config} (hk : k.wf) (m : Medium) (c h : Nat) :
    (m.readTrack k c h).length = k.mfmTrackBytes := by
  unfold Medium.readTrack
  split
  · exact length_fitTrack _ _
  · split
    · refine length_encodeTrack hk c h (by simp) fun d hd => ?_
      obtain ⟨s, -, rfl⟩ := List.mem_map.1 hd
      exact length_sectorLongs _ _ _ _
    · exact List.length_replicate

end Sys2Proof.Machine
end

section
/-! Which operations leave the memories as they are, and what the others do to them: chip memory, the track buffer and the sector
images stay in canonical form and inside their bounds. -/

namespace Sys2Proof.Machine

/-! ### The memories of a state -/

/-- The parts of the state that `MemoryInv` speaks of (`MemoryInv.of_same`). -/
structure Memories where
  cfg : Config
  mem : Memory
  buf : Memory
  media : Vector (Option Medium) 4
  host : List HostOp

/-- The memories of a state, with their bounds and the media still to come. -/
def State.memories (s : State) : Memories := ⟨s.cfg, s.mem, s.dsk.buf, s.drives.map Drive.media, s.host⟩

theorem MemoryInv.of_same {s t : State} (h : MemoryInv s) (e : t.memories = s.memories) : MemoryInv t := by
  simp only [State.memories, Memories.mk.injEq] at e
  obtain ⟨hcfg, hmem, hbuf, hmedia, hhost⟩ := e
  have hmedium : ∀ d : Fin 4, t.drives[d].media = s.drives[d].media := fun d => by
    have hd := congrArg (fun v => v[d]) hmedia
    simpa using hd
  obtain ⟨h1, h2, h3, h4, h5, h6, h7, h8⟩ := h
  constructor <;> simpa only [hcfg, hmem, hbuf, hmedium, hhost]

/-! ### Operations that leave them as they are -/

@[simp] theorem State.withBeam_memories (s : State) (x : Beam) : (s.withBeam x).memories = s.memories := rfl
@[simp] theorem State.withIrq_memories (s : State) (x : Irq) : (s.withIrq x).memories = s.memories := rfl
@[simp] theorem State.withCpuBlock_memories (s : State) (x : BitVec 2) : (s.withCpuBlock x).memories = s.memories := rfl
@[simp] theorem State.withBpl_memories (s : State) (x : Bitplane) : (s.withBpl x).memories = s.memories := rfl
@[simp] theorem State.withSpr_memories (s : State) (x : Vector Sprite 8) : (s.withSpr x).memories = s.memories := rfl
@[simp] theorem State.withBlt_memories (s : State) (x : Blitter) : (s.withBlt x).memories = s.memories := rfl
@[simp] theorem State.withCop_memories (s : State) (x : Copper) : (s.withCop x).memories = s.memories := rfl
@[simp] theorem State.withAud_memories (s : State) (x : Vector AudioChan 4) : (s.withAud x).memories = s.memories := rfl
@[simp] theorem State.withCiaA_memories (s : State) (x : Cia) : (s.withCiaA x).memories = s.memories := rfl
@[simp] theorem State.withCiaB_memories (s : State) (x : Cia) : (s.withCiaB x).memories = s.memories := rfl
@[simp] theorem State.withCiaDiv_memories (s : State) (x : BitVec 4) : (s.withCiaDiv x).memories = s.memories := rfl
@[simp] theorem State.withOut_memories (s : State) (x : StepOut) : (s.withOut x).memories = s.memories := rfl
@[simp] theorem State.withCpuGrant_memories (s : State) (x : Bool) : (s.withCpuGrant x).memories = s.memories := rfl

theorem State.withDsk_memories {s : State} {x : Disk} (hx : x.buf = s.dsk.buf) : (s.withDsk x).memories = s.memories := by
  simp only [State.memories, State.withDsk_cfg, State.withDsk_mem, State.withDsk_dsk, State.withDsk_drives,
    State.withDsk_host, hx]

/-- A change of the drives that leaves each medium where it is. -/
theorem State.withDrives_memories {s : State} {x : Vector Drive 4} (hx : ∀ d : Fin 4, x[d].media = s.drives[d].media) :
    (s.withDrives x).memories = s.memories := by
  have hmap : x.map Drive.media = s.drives.map Drive.media := by
    ext d hd : 1
    simpa using hx ⟨d, hd⟩
  simp only [State.memories, State.withDrives_cfg, State.withDrives_mem, State.withDrives_dsk, State.withDrives_drives,
    State.withDrives_host, hmap]

theorem Drive.motorCommand_media (k : Config) (on : Bool) (v : Drive) : (v.motorCommand k on).media = v.media := by
  unfold Drive.motorCommand
  split <;> rfl

theorem Drive.headStep_media (k : Config) (v : Drive) : (v.headStep k).media = v.media := by
  unfold Drive.headStep
  split <;> rfl

theorem Drive.control_media (k : Config) (old new : Byte) (sel : Nat) (v : Drive) :
    (v.control k old new sel).media = v.media := by
  unfold Drive.control
  extract_lets selOld selNew v1
  have hmotor : v1.media = v.media := by
    unfold v1
    split
    · exact v.motorCommand_media k _
    · rfl
  split
  · split
    · exact (Drive.headStep_media _ _).trans hmotor
    · exact hmotor
  · exact hmotor

theorem Drive.tick_media (k : Config) (v : Drive) : (v.tick k).media = v.media := by
  have hspin : v.spinDown.media = v.media := by
    unfold Drive.spinDown
    split <;> rfl
  unfold Drive.tick
  dsimp only
  split <;> exact hspin

@[simp] theorem driveControl_memories (old new : Byte) (s : State) : (driveControl old new s).memories = s.memories := by
  have hdrives : (s.withDrives (driveControl old new s).drives).memories = s.memories := by
    refine State.withDrives_memories fun d => ?_
    simp only [driveControl, State.withDsk_drives, State.withDrives_drives, Fin.getElem_fin, Vector.getElem_ofFn]
    split
    · exact Drive.control_media _ _ _ _ _
    · rfl
  exact hdrives

@[simp] theorem driveTicks_memories (s : State) : (driveTicks s).memories = s.memories := by
  have hdrives : (s.withDrives (Vector.ofFn fun d : Fin 4 =>
      if d.val < s.cfg.numDrives then s.drives[d].tick s.cfg else s.drives[d])).memories = s.memories := by
    refine State.withDrives_memories fun d => ?_
    simp only [Fin.getElem_fin, Vector.getElem_ofFn]
    split
    · exact Drive.tick_media _ _
    · rfl
  unfold driveTicks
  dsimp only
  split <;> exact hdrives

@[simp] theorem setCia_memories (i : CiaId) (c : Cia) (s : State) : (s.setCia i c).memories = s.memories := by
  cases i <;> rfl

@[simp] theorem setPorts_memories (i : CiaId) (c : Cia) (s : State) : (setPorts i c s).memories = s.memories := by
  cases i with
  | a => rfl
  | b =>
    unfold setPorts setCiaBLines
    dsimp only
    split
    · rfl
    · exact driveControl_memories _ _ _

@[simp] theorem ciaWrite_memories (i : CiaId) (r : BitVec 4) (v : Byte) (s : State) :
    (ciaWrite i r v s).memories = s.memories := by
  unfold ciaWrite
  dsimp only
  split
  case h_1 | h_2 | h_3 | h_4 => exact setPorts_memories _ _ _
  case h_12 => rfl
  all_goals exact setCia_memories _ _ _

@[simp] theorem ciaReadEffect_memories (i : CiaId) (r : BitVec 4) (s : State) :
    (ciaReadEffect i r s).memories = s.memories := by
  unfold ciaReadEffect
  split
  · exact setCia_memories _ _ _
  · rfl

@[simp] theorem ciaAndDriveTick_memories (s : State) : (ciaAndDriveTick s).memories = s.memories := by
  have hlines : ∀ u, (ciaIrqLines u).memories = u.memories := fun u => by
    rw [ciaIrqLines_touches]
    simp
  have hdivide : ∀ u, (ciaDivide u).memories = u.memories := fun u => by
    rw [ciaDivide_touches]
    simp
  have hpulses : (todPulses s).memories = s.memories := by
    rw [todPulses_touches]
    simp
  exact (hlines _).trans ((driveTicks_memories _).trans ((hdivide _).trans hpulses))

@[simp] theorem dskbytHoldCountdown_memories (s : State) : (dskbytHoldCountdown s).memories = s.memories := by
  unfold dskbytHoldCountdown
  split <;> rfl

@[simp] theorem housekeeping_memories (s : State) : (housekeeping s).memories = s.memories := by
  rw [housekeeping_touches]
  simp

@[simp] theorem audioMixIfDue_memories (s : State) : (audioMixIfDue s).memories = s.memories := by
  rw [audioMixIfDue_touches]
  simp

@[simp] theorem beamAdvance_memories (s : State) : (beamAdvance s).memories = s.memories := by
  rw [beamAdvance_touches]
  simp

/-- After the chain a tick changes no memory. -/
theorem tickRest_memories (wants : Bool) (sv : Vector (BitVec 2) 8) (pf : List (BitVec 6)) (s : State) :
    (tickRest wants sv pf s).memories = s.memories := by
  have hend : ∀ u, (tickEnd wants u).memories = u.memories := fun u => by simp [tickEnd]
  have hipl : ∀ u, (updateIpl u).memories = u.memories := fun u => State.withIrq_memories u _
  have hphase4 : (phase4 (pixelOutput sv pf s)).memories = s.memories := dskbytHoldCountdown_memories _
  rw [tickRest, hend, beamAdvance_memories, audioMixIfDue_memories, ciaAndDriveTick_memories, hipl, hphase4]

/-- A register write other than that of `DSKLEN` changes no memory. -/
theorem regWriteReg_memories {r : Reg} (hr : r ≠ .dsklen) (v : Word) (s : State) :
    Ends True (fun t => t.memories = s.memories) (regWriteReg r v s) := by
  have hblitter : ∀ f, Ends True (fun t => t.memories = s.memories) (writeBlitter f s) := fun f => by
    unfold writeBlitter
    split
    · exact .refused _
    · exact .next rfl
  cases r with
  | dsklen => exact absurd rfl hr
  | bltsize =>
    simp only [regWriteReg, writeBltsize]
    split
    · exact .next rfl
    · exact .refused _
  | bltcon0 | bltcon1 | bltafwm | bltalwm | bltpth | bltptl | bltmod | bltcdat | bltbdat | bltadat =>
    simp only [regWriteReg]
    exact hblitter _
  | _ => exact .next rfl

/-! ### Operations that change one -/

section
variable {s : State} (h : MemoryInv s)
include h

theorem MemoryInv.withMem {m : Memory} (hw : Mem.wf m) (hb : Mem.below s.cfg.chipMemBytes m) : MemoryInv (s.withMem m) :=
  { h with memWf := hw, memBelow := hb }

/-- A change of the disk's registers and head. -/
theorem MemoryInv.withDsk {d : Disk} (hd : d.buf = s.dsk.buf) : MemoryInv (s.withDsk d) :=
  h.of_same (State.withDsk_memories hd)

theorem MemoryInv.raiseIrq (b : Fin 14) (d : Byte) : MemoryInv (raiseIrq b d s) := h.of_same (State.withIrq_memories _ _)

theorem MemoryInv.grant (o : BusOwner) (a : Long) (v : Word) : MemoryInv (grant o a v s) :=
  h.of_same (State.withOut_memories _ _)

theorem MemoryInv.withBuf {d : Disk} (hw : Mem.wf d.buf) (hb : Mem.below s.cfg.mfmTrackBytes d.buf) :
    MemoryInv (s.withDsk d) :=
  { h with bufWf := hw, bufBelow := hb }

theorem MemoryInv.withDrive (d : Fin 4) {v : Drive} (hv : mediumOk v.media) :
    MemoryInv (s.withDrives (s.drives.set d v)) := by
  refine { h with mediaOk := fun e => ?_ }
  simp only [State.withDrives_drives, Fin.getElem_fin, Vector.getElem_set]
  split
  · exact hv
  · exact h.mediaOk e

theorem memWrite_memoryInv {p : Long} {w : Word} : Ends True MemoryInv (memWrite s p w) := by
  unfold memWrite
  split
  · rename_i hr
    exact .next (h.withMem (Mem.wf_writeWord _ _ _ h.memWf) (Mem.below_writeWord _ _ _ _ h.memBelow (dmaInRange_iff.1 hr)))
  · exact .fault fun _ => trivial

/-! ### Disk -/

theorem MemoryInv.setMedium (d : Fin 4) {m : Option Medium} (hm : mediumOk m) : MemoryInv (setMedium d m s) :=
  (h.withDrive d hm).withBuf h.bufWf h.bufBelow

/-- A track written back leaves the medium in order (R288, R299). -/
theorem MemoryInv.flushToDrive (d : Fin 4) : MemoryInv (flushToDrive d s) := by
  unfold Machine.flushToDrive
  dsimp only
  split
  · exact h
  · rename_i m hmedium
    have hm : m.ok := by
      have := h.mediaOk d
      rwa [hmedium] at this
    split
    · exact h
    · split
      · rename_i m' hwrite
        exact h.withDrive d (Medium.ok_writeTrack _ _ _ _ _ _ hm (Bool.toNat_le _) hwrite)
      · exact h.of_same rfl

theorem MemoryInv.diskWriteFlush : MemoryInv (diskWriteFlush s) := by
  unfold Machine.diskWriteFlush
  extract_lets s1
  have h1 : MemoryInv s1 := by
    unfold s1
    split
    · exact h
    · split
      · exact h
      · exact h.flushToDrive _
  exact h1.withDsk rfl

theorem MemoryInv.writeDsklen (v : Word) : MemoryInv (writeDsklen v s) := by
  unfold Machine.writeDsklen
  split
  · exact h.withDsk rfl
  · split
    · have hlen : MemoryInv (s.withDsk { s.dsk with len := v, remaining := v.extractLsb' 0 14, synced := false }) :=
        h.withDsk rfl
      dsimp only
      split
      · exact hlen.raiseIrq _ _
      · exact hlen.withDsk rfl
    · dsimp only
      split
      · exact h.withDsk rfl
      · split
        · exact (h.diskWriteFlush.withDsk rfl).withDsk rfl
        · exact (h.withDsk rfl).withDsk rfl

/-- A track loaded into the buffer fills it and no more (R284, R298). -/
theorem MemoryInv.trackBufferLoad (hk : s.cfg.wf) (d : Fin 4) : MemoryInv (trackBufferLoad d s) := by
  unfold Machine.trackBufferLoad
  split
  · exact h
  · refine h.withBuf (Mem.wf_ofBytes _) (Mem.below_ofBytes _ _ _ ?_)
    split
    · rw [Medium.length_readTrack hk, Nat.zero_add]
    · exact Nat.zero_le _

theorem MemoryInv.diskCountDown {flush : State → State} (hf : ∀ u, MemoryInv u → MemoryInv (flush u)) :
    MemoryInv (diskCountDown flush s) := by
  have hcount : MemoryInv (s.withDsk { s.dsk with remaining := s.dsk.remaining - 1 }) := h.withDsk rfl
  unfold Machine.diskCountDown
  dsimp only
  split
  · exact ((hf _ hcount).withDsk (by rfl)).raiseIrq _ _
  · exact hcount

theorem diskReadWord_memoryInv : Ends True MemoryInv (diskReadWord s) := by
  unfold diskReadWord
  extract_lets w hit d1 s1 s2 d2
  have h1 : MemoryInv s1 := h.withDsk rfl
  have h2 : MemoryInv s2 := by
    unfold s2
    split
    · exact (h1.raiseIrq _ _).withDsk rfl
    · exact h1
  split
  · exact .next ((h2.withDsk (by rfl)).grant _ _ _)
  · split
    · exact .next (h2.grant _ _ _)
    · refine (memWrite_memoryInv h2).andThen fun t ht => .withPtrAdd fun p => .next ?_
      exact MemoryInv.diskCountDown ((ht.withDsk (by rfl)).grant _ _ _) fun _ hu => hu

/-- The word under the head lies inside the buffer, since the head stands at an even offset and the buffer's size is even (R284,
R288). -/
theorem MemoryInv.putHeadWord (hk : s.cfg.wf) (hd : DiskInv s) {w : Word} {d : Disk}
    (hbuf : d.buf = Mem.writeWord s.dsk.buf s.dsk.bufPos.toNat w) : MemoryInv (s.withDsk d) := by
  obtain ⟨hlt, heven, -⟩ := hd
  obtain ⟨htrack, -, -⟩ := Config.wf_track hk
  refine h.withBuf ?_ ?_ <;> rw [hbuf]
  · exact Mem.wf_writeWord _ _ _ h.bufWf
  · exact Mem.below_writeWord _ _ _ _ h.bufBelow (by omega)

theorem diskWriteWord_memoryInv (hk : s.cfg.wf) (hd : DiskInv s) : Ends True MemoryInv (diskWriteWord s) := by
  refine .withMemRead fun w => .withPtrAdd fun p => .next ?_
  exact MemoryInv.diskCountDown ((h.putHeadWord hk hd (w := w) (by rfl)).grant _ _ _) fun _ hu => hu.diskWriteFlush

end

end Sys2Proof.Machine
end

section
/-! Every step keeps chip memory, the track buffer, the ROM and the sector images in canonical form and inside their bounds. -/

namespace Sys2Proof.Machine

/-- The operation keeps the memories in order. -/
def KeepsMemories (f : State → Result) : Prop := ∀ s, MemoryInv s → Ends True MemoryInv (f s)

theorem Ends.of_eq_next {P : State → Prop} {r : Result} (h : ∀ t, r = .next t → P t) : Ends True P r := by
  cases r with
  | next t => exact .next (h t rfl)
  | fault e => exact .fault fun _ => trivial
  | refused e => exact .refused e

theorem Ends.memoryInv {s : State} {r : Result} (h : MemoryInv s) (hr : Ends True (fun t => t.memories = s.memories) r) :
    Ends True MemoryInv r :=
  hr.mono id fun _ ht => h.of_same ht

theorem KeepsMemories.of_next {f : State → Result} (hf : ∀ s t, f s = .next t → t.memories = s.memories) : KeepsMemories f :=
  fun s h => .memoryInv h (.of_eq_next (hf s))

theorem KeepsMemories.andThen {f g : State → Result} (hf : KeepsMemories f) (hg : KeepsMemories g) :
    KeepsMemories fun s => andThen (f s) g :=
  fun s h => (hf s h).andThen hg

/-! ### Registers and the copper -/

theorem regWriteReg_keepsMemories (r : Reg) (v : Word) : KeepsMemories (regWriteReg r v) := by
  intro s h
  by_cases hr : r = .dsklen
  · subst hr
    exact .next (h.writeDsklen v)
  · exact .memoryInv h (regWriteReg_memories hr v s)

theorem regWrite_keepsMemories (off v : Word) : KeepsMemories (regWrite off v) := by
  intro s h
  unfold regWrite
  split
  · exact regWriteReg_keepsMemories _ v s h
  · exact .next h

theorem execMove_keepsMemories (off data : Word) : KeepsMemories (execMove off data) := by
  intro s h
  unfold execMove
  split
  · exact .next (h.of_same rfl)
  · split
    · exact .next (h.of_same rfl)
    · exact regWrite_keepsMemories off data s h

theorem execWait_keepsMemories (vp hp : Byte) (bfd : Bool) (ve : BitVec 7) (he : Byte) :
    KeepsMemories (execWait vp hp bfd ve he) := by
  intro s h
  unfold execWait
  split
  · refine .next (h.of_same ?_)
    split <;> rfl
  all_goals exact .next (h.of_same rfl)

theorem execSkip_keepsMemories (vp hp : Byte) (bfd : Bool) (ve : BitVec 7) (he : Byte) :
    KeepsMemories (execSkip vp hp bfd ve he) := by
  intro s h
  unfold execSkip
  split <;> exact .next (h.of_same rfl)

theorem exec_decodeCopper_keepsMemories (w1 w2 : Word) : KeepsMemories (exec (decodeCopper w1 w2)) := by
  intro s h
  unfold decodeCopper
  split
  · exact execMove_keepsMemories _ _ s h
  · split
    · exact execWait_keepsMemories _ _ _ _ _ s h
    · exact execSkip_keepsMemories _ _ _ _ _ s h

theorem copperFetch_keepsMemories : KeepsMemories copperFetch := by
  intro s h
  unfold copperFetch
  split
  · refine .withMemRead fun w => .withPtrAdd fun p => ?_
    dsimp only
    split
    · exact exec_decodeCopper_keepsMemories _ _ _ (h.of_same rfl)
    · exact .next (h.of_same rfl)
  · exact .next h

theorem copperTurn_keepsMemories : KeepsMemories copperTurn := by
  intro s h
  unfold copperTurn
  split
  · split
    case h_1 => exact .next h
    case h_2 => exact copperFetch_keepsMemories _ (h.of_same rfl)
    case h_3 => exact copperFetch_keepsMemories s h
    case h_4 =>
      split
      · exact execSkip_keepsMemories _ _ _ _ _ s h
      · exact execWait_keepsMemories _ _ _ _ _ s h
    case h_5 => exact execWait_keepsMemories _ _ _ _ _ s h
    case h_6 => exact execSkip_keepsMemories _ _ _ _ _ s h
    case h_7 | h_8 => exact .next (h.of_same rfl)
  · exact .next h

/-! ### The blitter -/

theorem bltFetch_keepsMemories (m : BltMode) (x : BltChan) : KeepsMemories (bltFetch m x) := fun _ h =>
  .withMemRead fun _ => .withAreaStep fun _ => .next (h.of_same rfl)

theorem bltWriteD_keepsMemories (desc : Bool) : KeepsMemories (bltWriteD desc) := fun _ h =>
  (memWrite_memoryInv h).andThen fun _ ht => .withAreaStep fun _ => .next (ht.of_same rfl)

theorem areaSlot_keepsMemories (m : BltMode) (ph : BltPhase) : KeepsMemories (areaSlot m ph) := by
  intro s h
  cases ph with
  | a | b | c => exact bltFetch_keepsMemories m _ s h
  | d => exact bltWriteD_keepsMemories _ s h
  | idle => exact .next h

theorem lineFetchC_keepsMemories : KeepsMemories lineFetchC := by
  refine fun s h => .withMemRead fun w => .next (h.of_same ?_)
  split <;> rfl

theorem lineWriteD_keepsMemories (m : LineMode) : KeepsMemories (lineWriteD m) := by
  intro s h
  have hmem : Ends True MemoryInv (if useD s.blt.con0 then memWrite s s.blt.dpt (s.blt.dotWord m) else .next s) := by
    split
    · exact memWrite_memoryInv h
    · exact .next h
  exact hmem.andThen fun t ht => .next (ht.of_same rfl)

theorem lineSlot_keepsMemories (m : LineMode) (ph : BltPhase) : KeepsMemories (lineSlot m ph) := by
  intro s h
  cases ph with
  | a | b | c => exact lineFetchC_keepsMemories s h
  | d => exact lineWriteD_keepsMemories m s h
  | idle => exact .next h

theorem completeDot_keepsMemories (m : LineMode) : KeepsMemories (completeDot m) := by
  refine fun s h => .lineMinorStep m fun _ _ => .lineMajorStep m fun b _ => .next (h.of_same ?_)
  rw [lineFinish_touches]
  simp

theorem phaseAdvance_keepsMemories {n : Nat} {complete : State → Result} (hc : KeepsMemories complete) :
    KeepsMemories (phaseAdvance n complete) := by
  intro s h
  unfold phaseAdvance
  split
  · exact hc _ (h.of_same rfl)
  · exact .next (h.of_same rfl)

theorem patternTurn_keepsMemories (pat : List BltPhase) (needs : BltPhase → Bool) {slot : BltPhase → State → Result}
    {complete : State → Result} (hs : ∀ ph, KeepsMemories (slot ph)) (hc : KeepsMemories complete) :
    KeepsMemories (patternTurn pat needs slot complete) := by
  intro s h
  unfold patternTurn
  split
  · exact .fault fun _ => trivial
  · split
    · split
      · exact (hs _ s h).andThen (phaseAdvance_keepsMemories hc)
      · exact .next h
    · exact phaseAdvance_keepsMemories hc s h

theorem areaTurn_keepsMemories (m : BltMode) : KeepsMemories (areaTurn m) := by
  refine fun s => patternTurn_keepsMemories _ _ (areaSlot_keepsMemories m) (fun u h => .next (h.of_same ?_)) s
  rw [completeWord_touches]
  simp

theorem lineTurn_keepsMemories (m : LineMode) : KeepsMemories (lineTurn m) := fun s =>
  patternTurn_keepsMemories _ _ (lineSlot_keepsMemories m) (completeDot_keepsMemories m) s

theorem exec_blitMode_keepsMemories (con1 : Word) : KeepsMemories (exec (decodeBlitMode con1)) := by
  intro s h
  unfold decodeBlitMode
  split
  · exact lineTurn_keepsMemories _ s h
  · split
    · exact areaTurn_keepsMemories _ s h
    · split <;> exact areaTurn_keepsMemories _ s h

theorem blitterTurn_keepsMemories : KeepsMemories blitterTurn := by
  intro s h
  unfold blitterTurn finalTurn
  split
  · split
    case h_1 | h_2 => exact .next h
    case h_3 => exact exec_blitMode_keepsMemories _ s h
    case h_4 =>
      split
      · split
        · exact (bltWriteD_keepsMemories _ s h).andThen fun t ht => .next (ht.of_same rfl)
        · exact .next h
      · exact .next (h.of_same rfl)
  · exact .next h

/-! ### The chain: the disk's turn needs the head in order -/

/-- The parameters, the head position and the memories are in order. -/
structure Sound (s : State) : Prop where
  cfg : s.cfg.wf
  disk : DiskInv s
  memory : MemoryInv s

theorem Sound.of_kept {s t : State} (h : Sound s) (hk : Kept s t) (hm : MemoryInv t) : Sound t := by
  refine ⟨hk.cfg ▸ h.cfg, ?_, hm⟩
  rw [diskInv_iff, hk.cfg]
  exact hk.disk h.cfg (diskInv_iff.1 h.disk)

/-- The operation keeps parameters, head position and memories in order. -/
def KeepsSound (f : State → Result) : Prop := ∀ s, Sound s → Ends True Sound (f s)

/-- The head position is among the blocks that every operation keeps in order, so the memories are left to show. -/
theorem KeepsOrder.keepsSound {f : State → Result} (hf : KeepsOrder f) (hm : ∀ s, Sound s → Ends True MemoryInv (f s)) :
    KeepsSound f := by
  refine fun s h => .of_eq_next fun t ht => ?_
  have hkept := ht ▸ hf s
  have hmem := ht ▸ hm s h
  exact h.of_kept hkept.of_next hmem.of_next

theorem KeepsSound.andThen {f g : State → Result} (hf : KeepsSound f) (hg : KeepsSound g) : KeepsSound fun s => andThen (f s) g :=
  fun s h => (hf s h).andThen hg

theorem KeepsSound.ifUnclaimed {f : State → Result} (hf : KeepsSound f) : KeepsSound (ifUnclaimed f) := by
  intro s h
  unfold Machine.ifUnclaimed
  split
  · exact .next h
  · exact hf s h

theorem diskTurnAt_memoryInv {s : State} (h : Sound s) : Ends True MemoryInv (diskTurnAt s) := by
  unfold diskTurnAt diskSlot
  split
  · split
    · exact .next (h.memory.of_same rfl)
    · rename_i d _
      have hload : Sound (trackBufferLoad d s) :=
        h.of_kept ((Kept.refl s).trackBufferLoad d) (h.memory.trackBufferLoad h.cfg d)
      dsimp only
      split
      · exact diskWriteWord_memoryInv hload.memory hload.cfg hload.disk
      · exact diskReadWord_memoryInv hload.memory
  · exact .next h.memory

theorem audioTurnAt_keepsMemories (n : Fin 4) : KeepsMemories (audioTurnAt n) :=
  .of_next fun s t ht => by
    rw [audioTurnAt_touches n s t ht]
    simp

theorem spriteTurnAt_keepsMemories (n : Fin 8) (k : Fin 2) : KeepsMemories (spriteTurnAt n k) :=
  .of_next fun s t ht => by
    rw [spriteTurnAt_touches n k s t ht]
    simp

theorem bitplaneTurn_keepsMemories : KeepsMemories bitplaneTurn :=
  .of_next fun s t ht => by
    rw [bitplaneTurn_touches s t ht]
    simp

theorem exec_fixedRow_memoryInv {s : State} (h : Sound s) (i : Instr) (hc : ownerOf i ≠ .copper) (hb : ownerOf i ≠ .blitter) :
    Ends True MemoryInv (exec i s) := by
  cases i with
  | move | wait | skip => exact absurd rfl hc
  | bltArea | bltFillInclusive | bltFillExclusive | bltLine => exact absurd rfl hb
  | slotRefresh0 | slotRefresh1 | slotRefresh2 | slotRefresh3 => exact .next (h.memory.of_same rfl)
  | slotDisk0 | slotDisk1 | slotDisk2 => exact diskTurnAt_memoryInv h
  | slotAud0 | slotAud1 | slotAud2 | slotAud3 => exact audioTurnAt_keepsMemories _ s h.memory
  | _ => exact spriteTurnAt_keepsMemories _ _ s h.memory

theorem fixedTurn_keepsSound (o : BusOwner) (hc : o ≠ .copper) (hb : o ≠ .blitter) : KeepsSound (fixedTurn o) := by
  refine KeepsOrder.keepsSound (fun s => fixedTurn_ends _ o s hc hb) fun s h => ?_
  unfold fixedTurn
  split
  · rename_i i hslot
    obtain ⟨-, ho⟩ := Option.filter_eq_some_iff.1 hslot
    obtain rfl := beq_iff_eq.1 ho
    exact exec_fixedRow_memoryInv h i hc hb
  · exact .next h.memory

theorem chain_keepsSound : KeepsSound chain := by
  have hrefresh := fixedTurn_keepsSound .refresh (by decide) (by decide)
  have hdisk := (fixedTurn_keepsSound .disk (by decide) (by decide)).ifUnclaimed
  have haudio := (fixedTurn_keepsSound .audio (by decide) (by decide)).ifUnclaimed
  have hsprite := (fixedTurn_keepsSound .sprite (by decide) (by decide)).ifUnclaimed
  have hbitplane : KeepsSound (ifUnclaimed bitplaneTurn) :=
    (KeepsOrder.keepsSound (fun s => bitplaneTurn_ends _ s) fun s h => bitplaneTurn_keepsMemories s h.memory).ifUnclaimed
  have hcopper : KeepsSound (ifUnclaimed copperTurn) :=
    (KeepsOrder.keepsSound (fun s => copperTurn_ends _ s) fun s h => copperTurn_keepsMemories s h.memory).ifUnclaimed
  have hblitter : KeepsSound (ifUnclaimed blitterTurn) :=
    (KeepsOrder.keepsSound blitterTurn_ends fun s h => blitterTurn_keepsMemories s h.memory).ifUnclaimed
  have hupper : KeepsSound upperChain := hrefresh.andThen (hdisk.andThen (haudio.andThen (hbitplane.andThen hsprite)))
  exact hupper.andThen (hcopper.andThen hblitter)

theorem phase2_memoryInv (wants : Bool) {s : State} (h : Sound s) : Ends True MemoryInv (phase2 wants s) := by
  unfold phase2
  split
  · have hentry : Sound (housekeeping s) :=
      h.of_kept (Kept.refl s).housekeeping (h.memory.of_same (housekeeping_memories s))
    refine (chain_keepsSound _ hentry).andThen fun t ht => .next (ht.memory.of_same ?_)
    rw [freeCycle_touches]
    simp [cpuBlockUpdate]
  · exact .next h.memory

theorem tick_memoryInv (wants : Bool) {s : State} (h : Sound s) : Ends True MemoryInv (tick wants s) := by
  have hstart : Sound (phase1 (tickStart s)) :=
    h.of_kept ((((Kept.refl s).withOut _).withCpuGrant _).withSpr _ |>.withBpl _) (h.memory.of_same rfl)
  exact (phase2_memoryInv wants hstart).andThen fun t ht => .next (ht.of_same (tickRest_memories wants _ _ t))

/-! ### The host's calls -/

theorem withBus_keepsMemories {k : State → Result} (hk : KeepsMemories k) : KeepsMemories fun s => withBus s k := by
  intro s h
  show Ends _ _ (withBus s k)
  unfold withBus
  split
  · exact hk _ (h.of_same rfl)
  · exact .refused _

theorem customRead_keepsMemories (width : Width) (off : Word) : KeepsMemories (customRead width off) := by
  intro s h
  unfold customRead
  cases width with
  | byte => exact .next (h.of_same rfl)
  | word | long =>
    dsimp only
    split
    · exact .refused _
    · exact .next (h.of_same rfl)

theorem customWrite_keepsMemories (width : Width) (off : Word) (v : Long) : KeepsMemories (customWrite width off v) := by
  intro s h
  unfold customWrite
  cases width with
  | byte => exact .refused _
  | word =>
    dsimp only
    split
    · exact .refused _
    · exact regWrite_keepsMemories _ _ s h
  | long =>
    dsimp only
    split
    · exact .refused _
    · exact (regWrite_keepsMemories _ _).andThen (regWrite_keepsMemories _ _) s h

theorem chipRead_keepsMemories (width : Width) (a : Long) : KeepsMemories (chipRead width a) := fun _ h =>
  withChipAddr_ends fun _ => .next (h.of_same rfl)

theorem chipWrite_keepsMemories (width : Width) (a v : Long) : KeepsMemories (chipWrite width a v) := by
  intro s h
  rw [chipWrite_eq]
  unfold withChipAddr
  split
  · exact .refused _
  · split
    · exact .refused _
    · rename_i hin
      refine .next (h.withMem (Mem.wf_writeBytes _ _ _ h.memWf) (Mem.below_writeBytes _ _ _ _ h.memBelow ?_))
      rw [Width.length_bytesOf]
      exact Nat.not_lt.1 hin

theorem cpuRead_keepsMemories (width : Width) (a : Long) : KeepsMemories (cpuRead width a) := by
  intro s h
  have hcia : (ciaBytesRead 0 a s width.bytes).memories = s.memories :=
    ciaBytesRead_keeps (P := fun t => t.memories = s.memories) (fun i r t ht => (ciaReadEffect_memories i r t).trans ht)
      (fun _ _ ht => ht) _ _ _ _ rfl
  unfold cpuRead
  split
  case h_1 => exact withBus_keepsMemories (customRead_keepsMemories width _) s h
  case h_2 => exact .next (h.of_same hcia)
  case h_3 => exact withRomAligned_ends (.next (h.of_same rfl))
  case h_4 => exact withBus_keepsMemories (chipRead_keepsMemories width a) s h
  case h_5 => exact .refused _

theorem cpuWrite_keepsMemories (width : Width) (a v : Long) : KeepsMemories (cpuWrite width a v) := by
  intro s h
  have hcia : (ciaBytesWrite v a s width.bytes).memories = s.memories :=
    ciaBytesWrite_keeps (P := fun t => t.memories = s.memories) (fun i r v t ht => (ciaWrite_memories i r v t).trans ht)
      _ _ _ _ rfl
  unfold cpuWrite
  split
  case h_1 => exact withBus_keepsMemories (customWrite_keepsMemories width _ v) s h
  case h_2 => exact .next (h.of_same hcia)
  case h_3 => exact withRomAligned_ends (.next h)
  case h_4 => exact withBus_keepsMemories (chipWrite_keepsMemories width a v) s h
  case h_5 => exact .refused _

theorem mediaCall_keepsMemories (d : Fin 4) {m : Option Medium} (hm : mediumOk m) : KeepsMemories (mediaCall d m) := by
  intro s h
  unfold mediaCall
  split
  · exact .next (h.setMedium d hm)
  · exact .refused _

/-- A reset empties the track buffer and leaves the other memories as they are (R400, R401). -/
theorem MemoryInv.resetAgain {s : State} (h : MemoryInv s) : MemoryInv s.resetAgain := by
  refine { h with bufWf := rfl, bufBelow := rfl, mediaOk := fun d => ?_ }
  have hd := h.mediaOk d
  simpa [State.resetAgain, State.afterReset, Drive.initial] using hd

theorem hostCall_memoryInv {op : HostOp} (hop : op.ok) {s : State} (h : Sound s) : Ends True MemoryInv (hostCall op s) := by
  have hempty : MemoryInv (s.withOut StepOut.empty) := h.memory.of_same rfl
  cases op with
  | tick wants pc => exact tick_memoryInv wants h
  | reset => exact .next h.memory.resetAgain
  | customRead width off => exact withBus_keepsMemories (customRead_keepsMemories width off) _ hempty
  | customWrite width off v => exact withBus_keepsMemories (customWrite_keepsMemories width off v) _ hempty
  | ciaRead i r => exact .next (hempty.of_same (ciaReadEffect_memories i r _))
  | ciaWrite i r v => exact .next (hempty.of_same (ciaWrite_memories i r v _))
  | chipRead width a => exact withBus_keepsMemories (chipRead_keepsMemories width a) _ hempty
  | chipWrite width a v => exact withBus_keepsMemories (chipWrite_keepsMemories width a v) _ hempty
  | cpuRead width a => exact cpuRead_keepsMemories width a _ hempty
  | cpuWrite width a v => exact cpuWrite_keepsMemories width a v _ hempty
  | currentIpl => exact .next (hempty.of_same rfl)
  | insertMedium d m => exact mediaCall_keepsMemories d (m := some m) hop _ hempty
  | ejectMedium d => exact mediaCall_keepsMemories d (m := none) rfl _ hempty

theorem step_memoryInv {s : State} (h : Sound s) : Ends True MemoryInv (step s) := by
  unfold step
  split
  · exact tick_memoryInv false h
  · rename_i op rest hhost
    have hops := h.memory.hostOk
    rw [hhost, List.all_cons, Bool.and_eq_true] at hops
    have hrest : MemoryInv (s.withHost rest) := { h.memory with hostOk := hops.2 }
    exact hostCall_memoryInv hops.1 (h.of_kept ((Kept.refl s).withHost rest) hrest)

/-- Settles O58: every part of a step keeps the memories in order; only the word that the disk's turn puts under the head needs
more, the head inside the buffer. -/
theorem stepKeepsMemoriesCanonical : Obligations.StepKeepsMemoriesCanonical := by
  unfold Obligations.StepKeepsMemoriesCanonical
  intro s t hk hd hm ht
  exact ⟨(step_kept ht).cfg, (ht ▸ step_memoryInv ⟨hk, hd, hm⟩).of_next⟩

end Sys2Proof.Machine
end

section
/-! The decoder: copper words by their low bits (R91 to R94), and the fixed slot map (R98). -/

namespace Sys2Proof.Machine

/-! ### Words of two bytes -/

section
variable (hi lo : Byte)

theorem wordOfBytes_low : (wordOfBytes hi lo).extractLsb' 0 8 = lo := BitVec.extractLsb'_append_eq_right

theorem wordOfBytes_high : (wordOfBytes hi lo).extractLsb' 8 8 = hi := BitVec.extractLsb'_append_eq_left

theorem wordOfBytes_high7 : (wordOfBytes hi lo).extractLsb' 8 7 = hi.extractLsb' 0 7 :=
  BitVec.extractLsb'_append_eq_of_le (by decide)

theorem wordOfBytes_top : (wordOfBytes hi lo).getLsbD 15 = hi.getLsbD 7 := BitVec.getLsbD_append

end

/-! ### Copper operands -/

theorem copperTarget_eq (b3 b2 : Byte) : copperTarget b3 (b2 &&& 0xFE) = (b3 ++ b2) &&& 0xFFFE := by
  have hhp : b3 ++ (b2 &&& 0xFE) = (b3 ++ b2) &&& (0xFFFE : Word) := by
    calc
      b3 ++ (b2 &&& 0xFE) = (b3 &&& BitVec.allOnes 8) ++ (b2 &&& 0xFE) := by rw [BitVec.and_allOnes]
      _ = (b3 ++ b2) &&& (BitVec.allOnes 8 ++ (0xFE : Byte)) := BitVec.and_append.symm
  rw [copperTarget, hhp, BitVec.and_assoc, BitVec.and_self]

theorem zero_append_low7 (b : Byte) : (0 : BitVec 1) ++ b.extractLsb' 0 7 = b &&& 0x7F := by
  apply BitVec.eq_of_toNat_eq
  rw [toNat_append_eq, BitVec.extractLsb'_toNat, BitVec.toNat_and]
  simpa using (Nat.and_two_pow_sub_one_eq_mod b.toNat 7).symm

theorem copperMask_eq (b1 b0 : Byte) :
    copperMask (b1.extractLsb' 0 7) (b0 &&& 0xFE) = 0x8000 ||| ((b1 ++ b0) &&& 0x7FFE) := by
  have hfields : (0 : BitVec 1) ++ b1.extractLsb' 0 7 ++ (b0 &&& 0xFE) = (b1 ++ b0) &&& (0x7FFE : Word) := by
    rw [zero_append_low7]
    exact BitVec.and_append.symm
  rw [copperMask, hfields, BitVec.and_assoc, BitVec.and_self]

/-- Settles O3: the decoder's tests are those of the statement, and the fields it takes from a word are bits of its bytes. -/
theorem copperWordsDecodeByTheirLowBits : Obligations.CopperWordsDecodeByTheirLowBits := by
  unfold Obligations.CopperWordsDecodeByTheirLowBits
  intro b3 b2 b1 b0
  refine ⟨?_, copperTarget_eq b3 b2, copperMask_eq b1 b0⟩
  simp only [decode, decodeCopper, moveOf, waitOf, skipOf, wordOfBytes_low, wordOfBytes_high, wordOfBytes_high7, wordOfBytes_top]
  rfl

/-! ### The fixed slot map -/

theorem findSlot_eq_none {cc : Byte} {rows : List (Byte × Instr)} (h : ∀ r ∈ rows, r.1 ≠ cc) : findSlot cc rows = none := by
  induction rows with
  | nil => rfl
  | cons r rest ih =>
    obtain ⟨hr, hrest⟩ := List.forall_mem_cons.1 h
    rw [findSlot, if_neg hr, ih hrest]

/-- Refresh's first slot apart, the slots lie on the odd colclocks up to 0x33 (R98). -/
theorem slotRows_colclocks : ∀ r ∈ slotRows, r.1 = 0xE2 ∨ r.1.toNat % 2 = 1 ∧ r.1.toNat ≤ 0x33 := by decide

theorem decodeSlot_eq_none {cc : Byte} (hE2 : cc ≠ 0xE2) (hcc : cc.toNat % 2 = 0 ∨ 0x33 < cc.toNat) : decodeSlot cc = none := by
  refine findSlot_eq_none fun r hr he => ?_
  rcases slotRows_colclocks r hr with h | h <;> rw [he] at h
  · exact hE2 h
  · omega

/-- The colclock of a tick, as a byte. -/
theorem cc_low (s : State) : s.cc.extractLsb' 0 8 = BitVec.ofNat 8 (s.beam.hpos.toNat / 2) := by
  simp [State.cc, BitVec.extractLsb', Nat.shiftRight_eq_div_pow]

theorem cc_toNat (s : State) : s.cc.toNat = s.beam.hpos.toNat / 2 := by
  simp [State.cc, Nat.shiftRight_eq_div_pow]

/-- Settles O4: every slot is looked up in the finite map, and a colclock of the last clause is in no row of it. -/
theorem fixedSlotMapHasOneOwnerPerColclock : Obligations.FixedSlotMapHasOneOwnerPerColclock := by
  unfold Obligations.FixedSlotMapHasOneOwnerPerColclock
  refine ⟨fun s => ?_, by decide, by decide, by decide, by decide, fun cc => decodeSlot_eq_none⟩
  rw [fixedSlot, cc_low, cc_toNat]

end Sys2Proof.Machine
end

section
/-! The rows of the fixed slots: the turn that each executes, and the turns of their consumers under a request (R98,
R126 to R130). -/

namespace Sys2Proof.Machine

/-! ### Rows by owner -/

section
variable {i : Instr} (s : State)

theorem exec_of_owner_refresh (h : ownerOf i = .refresh) : exec i s = .next (grant .refresh 0 0 s) := by
  cases i with
  | slotRefresh0 | slotRefresh1 | slotRefresh2 | slotRefresh3 => rfl
  | _ => cases h

theorem exec_of_owner_disk (h : ownerOf i = .disk) : exec i s = diskTurnAt s := by
  cases i with
  | slotDisk0 | slotDisk1 | slotDisk2 => rfl
  | _ => cases h

theorem exec_of_owner_audio (h : ownerOf i = .audio) : exec i s = audioTurnAt (audioChannelOf i) s := by
  cases i with
  | slotAud0 | slotAud1 | slotAud2 | slotAud3 => rfl
  | _ => cases h

theorem exec_spriteRow (n : Fin 8) (k : Fin 2) : exec (spriteRow n k) s = spriteTurnAt n k s := by
  fin_cases n <;> fin_cases k <;> rfl

end

/-! ### The slot of a colclock -/

theorem mem_of_findSlot {cc : Byte} {i : Instr} {rows : List (Byte × Instr)} (h : findSlot cc rows = some i) :
    (cc, i) ∈ rows := by
  induction rows with
  | nil => cases h
  | cons r rest ih =>
    rw [findSlot] at h
    split at h
    · rename_i hcc
      cases h
      exact hcc ▸ List.mem_cons_self
    · exact List.mem_cons_of_mem r (ih h)

/-- The sprite slots of R130: sprite `(cc - 0x15) / 4`, its two words one after the other. -/
theorem slotRows_sprite : ∀ r ∈ slotRows, ownerOf r.2 = .sprite →
    ∃ k, r.2 = spriteRow (Fin.ofNat 8 ((r.1.toNat - 0x15) / 4)) k := by decide

theorem owner_of_slotOf {o : BusOwner} {s : State} {i : Instr} (h : slotOf o s = some i) : ownerOf i = o :=
  beq_iff_eq.1 (Option.filter_eq_some_iff.1 h).2

theorem mem_slotRows_of_slotOf {o : BusOwner} {s : State} {i : Instr} (h : slotOf o s = some i) :
    ∃ b : Byte, b.toNat = s.cc.toNat ∧ (b, i) ∈ slotRows := by
  have hfixed := (Option.filter_eq_some_iff.1 h).1
  unfold fixedSlot at hfixed
  split at hfixed
  · rename_i hcc
    refine ⟨_, ?_, mem_of_findSlot hfixed⟩
    simpa using hcc
  · cases hfixed

theorem slotOf_sprite {s : State} {i : Instr} (h : slotOf .sprite s = some i) : ∃ k, i = spriteRow (spriteAt s) k := by
  obtain ⟨b, hb, hmem⟩ := mem_slotRows_of_slotOf h
  obtain ⟨k, hk⟩ := slotRows_sprite _ hmem (owner_of_slotOf h)
  exact ⟨k, hk.trans (by rw [spriteAt, ← hb])⟩

/-! ### Turns under a request -/

section
variable (s : State)

theorem fixedTurn_refresh : fixedTurn .refresh s = .next (if reqRefresh s then grant .refresh 0 0 s else s) := by
  unfold fixedTurn reqRefresh
  split
  · rename_i i hslot
    rw [exec_of_owner_refresh s (owner_of_slotOf hslot)]
    simp [hslot]
  · rename_i hslot
    simp [hslot]

theorem fixedTurn_disk : fixedTurn .disk s = if reqDisk s then diskSlot s else .next s := by
  unfold fixedTurn reqDisk
  split
  · rename_i i hslot
    rw [exec_of_owner_disk s (owner_of_slotOf hslot)]
    simp [hslot, diskTurnAt]
  · rename_i hslot
    simp [hslot]

theorem fixedTurn_audio : ∃ n, fixedTurn .audio s = if reqAudio s then audioSlot n s else .next s := by
  unfold fixedTurn reqAudio
  split
  · rename_i i hslot
    refine ⟨audioChannelOf i, ?_⟩
    rw [exec_of_owner_audio s (owner_of_slotOf hslot)]
    rfl
  · exact ⟨0, rfl⟩

theorem fixedTurn_sprite : ∃ n k, fixedTurn .sprite s = if reqSprite s then spriteSlot n k s else .next s := by
  unfold fixedTurn reqSprite
  split
  · rename_i i hslot
    obtain ⟨k, rfl⟩ := slotOf_sprite hslot
    refine ⟨spriteAt s, k, ?_⟩
    rw [exec_spriteRow]
    simp [hslot, spriteTurnAt]
  · rename_i hslot
    exact ⟨0, 0, by simp [hslot]⟩

theorem bitplaneTurn_eq : ∃ p, bitplaneTurn s = if reqBitplane s then bitplaneSlot p s else .next s := by
  unfold bitplaneTurn reqBitplane
  split
  · rename_i p hplane
    exact ⟨p, by simp [hplane]⟩
  · rename_i hplane
    exact ⟨0, by simp [hplane]⟩

end

end Sys2Proof.Machine
end

section
/-! The slot of a tick: what every operation but a claim leaves as it is, and what a claimed slot leaves behind (R123, R153). -/

namespace Sys2Proof.Machine

/-! ### The slot of a state -/

/-- The parts of the state that a consumer changes only with its claim of the slot (`SlotEnded.of_slot`). -/
structure Slot where
  cfg : Config
  mem : Memory
  cpuBlock : BitVec 2
  bus : BusOwner
  freeCycle : Bool
  dmaAddress : Long

/-- Chip memory, the CPU-block counter and the grant of the slot. -/
def State.slot (s : State) : Slot := ⟨s.cfg, s.mem, s.cpuBlock, s.out.bus, s.out.freeCycle, s.out.dmaAddress⟩

@[simp] theorem State.withBeam_slot (s : State) (x : Beam) : (s.withBeam x).slot = s.slot := rfl
@[simp] theorem State.withIrq_slot (s : State) (x : Irq) : (s.withIrq x).slot = s.slot := rfl
@[simp] theorem State.withBpl_slot (s : State) (x : Bitplane) : (s.withBpl x).slot = s.slot := rfl
@[simp] theorem State.withSpr_slot (s : State) (x : Vector Sprite 8) : (s.withSpr x).slot = s.slot := rfl
@[simp] theorem State.withBlt_slot (s : State) (x : Blitter) : (s.withBlt x).slot = s.slot := rfl
@[simp] theorem State.withCop_slot (s : State) (x : Copper) : (s.withCop x).slot = s.slot := rfl
@[simp] theorem State.withAud_slot (s : State) (x : Vector AudioChan 4) : (s.withAud x).slot = s.slot := rfl
@[simp] theorem State.withDsk_slot (s : State) (x : Disk) : (s.withDsk x).slot = s.slot := rfl
@[simp] theorem State.withDrives_slot (s : State) (x : Vector Drive 4) : (s.withDrives x).slot = s.slot := rfl
@[simp] theorem State.withCiaA_slot (s : State) (x : Cia) : (s.withCiaA x).slot = s.slot := rfl
@[simp] theorem State.withCiaB_slot (s : State) (x : Cia) : (s.withCiaB x).slot = s.slot := rfl
@[simp] theorem State.withCiaDiv_slot (s : State) (x : BitVec 4) : (s.withCiaDiv x).slot = s.slot := rfl
@[simp] theorem State.withCpuGrant_slot (s : State) (x : Bool) : (s.withCpuGrant x).slot = s.slot := rfl

/-! ### Operations that leave it as it is -/

/-- A flush reports at most a refused write-back. -/
theorem flushToDrive_slot (d : Fin 4) (s : State) : (flushToDrive d s).slot = s.slot := by
  unfold flushToDrive
  dsimp only
  split
  · rfl
  · split
    · rfl
    · split <;> rfl

theorem diskWriteFlush_slot (s : State) : (diskWriteFlush s).slot = s.slot := by
  unfold diskWriteFlush
  dsimp only
  split
  · rfl
  · split
    · rfl
    · exact flushToDrive_slot _ s

theorem writeDsklen_slot (v : Word) (s : State) : (writeDsklen v s).slot = s.slot := by
  unfold writeDsklen
  dsimp only
  split
  · rfl
  · split
    · split <;> rfl
    · split
      · rfl
      · split
        · exact diskWriteFlush_slot s
        · rfl

/-- The operation leaves the slot as it is. -/
def KeepsSlot (f : State → Result) : Prop := ∀ s, Ends True (fun t => t.slot = s.slot) (f s)

theorem KeepsSlot.of_slot {f : State → Result} (hf : KeepsSlot f) {s t : State} (h : t.slot = s.slot) :
    Ends True (fun u => u.slot = s.slot) (f t) :=
  (hf t).mono id fun _ hu => hu.trans h

theorem regWriteReg_keepsSlot (r : Reg) (v : Word) : KeepsSlot (regWriteReg r v) := by
  intro s
  have hblitter : ∀ f, Ends True (fun t => t.slot = s.slot) (writeBlitter f s) := fun f => by
    unfold writeBlitter
    split
    · exact .refused _
    · exact .next rfl
  cases r with
  | dsklen => exact .next (writeDsklen_slot v s)
  | bltsize =>
    simp only [regWriteReg, writeBltsize]
    split
    · exact .next rfl
    · exact .refused _
  | bltcon0 | bltcon1 | bltafwm | bltalwm | bltpth | bltptl | bltmod | bltcdat | bltbdat | bltadat =>
    simp only [regWriteReg]
    exact hblitter _
  | _ => exact .next rfl

theorem regWrite_keepsSlot (off v : Word) : KeepsSlot (regWrite off v) := by
  intro s
  unfold regWrite
  split
  · exact regWriteReg_keepsSlot _ v s
  · exact .next rfl

/-- Phases 3 to 7 of a tick leave the slot as it is. -/
theorem tickRest_slot (wants : Bool) (sv : Vector (BitVec 2) 8) (pf : List (BitVec 6)) (s : State) :
    (tickRest wants sv pf s).slot = s.slot := by
  have hhold : ∀ u, (dskbytHoldCountdown u).slot = u.slot := fun u => by
    rw [dskbytHoldCountdown_touches]
    simp
  have hcia : ∀ u, (ciaAndDriveTick u).slot = u.slot := fun u => by
    rw [ciaAndDriveTick_touches]
    simp
  have hmix : ∀ u, (audioMixIfDue u).slot = u.slot := fun u => by
    unfold audioMixIfDue
    split <;> rfl
  have hbeam : ∀ u, (beamAdvance u).slot = u.slot := fun u => by
    unfold beamAdvance nextLine
    split
    · split <;> rfl
    · rfl
  have hphase4 : ∀ u, (phase4 u).slot = u.slot := fun u => hhold _
  have hipl : ∀ u, (updateIpl u).slot = u.slot := fun u => State.withIrq_slot u _
  have hpixels : (pixelOutput sv pf s).slot = s.slot := rfl
  have hend : ∀ u, (tickEnd wants u).slot = u.slot := fun u => State.withCpuGrant_slot _ _
  rw [tickRest, hend, hbeam, hmix, hcia, hipl, hphase4, hpixels]

/-- The slot at the start of a tick is nobody's. -/
theorem tickStart_slot (s : State) : (tickStart s).slot = ⟨s.cfg, s.mem, s.cpuBlock, .none, false, 0⟩ := rfl

theorem phase1_slot (s : State) : (phase1 s).slot = s.slot := rfl

theorem housekeeping_slot (s : State) : (housekeeping s).slot = s.slot := by
  rw [housekeeping_touches]
  simp

/-! ### The end of a slot -/

/-- From `s` to `t` the slot went to `o`: chip memory reads as before, but for the word at the reported address when the disk
or the blitter had it. -/
structure SlotEnded (o : BusOwner) (s t : State) : Prop where
  bus : t.out.bus = o
  freeCycle : t.out.freeCycle = s.out.freeCycle
  cpuBlock : t.cpuBlock = s.cpuBlock
  mem : SameMem s t ∨ (o = .disk ∨ o = .blitter) ∧ SameMemOutsideWord t.out.dmaAddress.toNat s t

section
variable {o : BusOwner} {s t u : State}

theorem SlotEnded.of_slot (h : t.slot = s.slot) (ho : s.out.bus = o) : SlotEnded o s t := by
  simp only [State.slot, Slot.mk.injEq] at h
  obtain ⟨-, hmem, hblock, hbus, hfree, -⟩ := h
  exact ⟨hbus.trans ho, hfree, hblock, .inl fun b => by rw [hmem]⟩

/-- What a slot ended in does not show what changed after it but for the slot. -/
theorem SlotEnded.trans_slot (h : SlotEnded o s u) (hu : t.slot = u.slot) : SlotEnded o s t := by
  simp only [State.slot, Slot.mk.injEq] at hu
  obtain ⟨-, hmem, hblock, hbus, hfree, haddr⟩ := hu
  obtain ⟨h1, h2, h3, h4⟩ := h
  refine ⟨hbus.trans h1, hfree.trans h2, hblock.trans h3, ?_⟩
  unfold SameMem SameMemOutsideWord at *
  rw [hmem, haddr]
  exact h4

/-- Nor what changed before it. -/
theorem SlotEnded.of_start (h : SlotEnded o u t) (hu : u.slot = s.slot) : SlotEnded o s t := by
  simp only [State.slot, Slot.mk.injEq] at hu
  obtain ⟨-, hmem, hblock, -, hfree, -⟩ := hu
  obtain ⟨h1, h2, h3, h4⟩ := h
  refine ⟨h1, h2.trans hfree, h3.trans hblock, ?_⟩
  unfold SameMem SameMemOutsideWord at *
  rw [← hmem]
  exact h4

/-- A claim for a read, or for no access (R123). -/
theorem SlotEnded.grant (p : Long) (w : Word) (h : u.slot = s.slot) : SlotEnded o s (grant o p w u) := by
  simp only [State.slot, Slot.mk.injEq] at h
  obtain ⟨-, hmem, hblock, -, hfree, -⟩ := h
  exact ⟨rfl, hfree, hblock, .inl fun b => by rw [← hmem]; rfl⟩

/-- A claim for a write of the word at `p` reports the address written (R63, R123). -/
theorem SlotEnded.grantWrite (ho : o = .disk ∨ o = .blitter) {p : Long} {v : Word} (w : Word)
    (h : u.slot = (s.withMem (Mem.writeWord s.mem (dmaAddr s p) v)).slot) : SlotEnded o s (Machine.grant o p w u) := by
  simp only [State.slot, Slot.mk.injEq] at h
  obtain ⟨hcfg, hmem, hblock, -, hfree, -⟩ := h
  refine ⟨rfl, hfree, hblock, .inr ⟨ho, fun b h0 h1 => ?_⟩⟩
  have haddr : (Machine.grant o p w u).out.dmaAddress.toNat = dmaAddr s p := by
    show (p &&& u.cfg.chipAddrMask).toNat = _
    rw [hcfg]
    rfl
  rw [haddr] at h0 h1
  show Mem.read u.mem b = _
  rw [hmem]
  exact Mem.read_writeWord_ne _ _ _ _ h0 h1

theorem SlotEnded.claimed (h : SlotEnded o s t) : t.claimed = (o != .none) := by
  rw [State.claimed, h.bus]

/-- A DMA write that goes on has written its word. -/
theorem Ends.andThen_memWrite {c : Prop} {P : State → Prop} {p : Long} {v : Word} {f : State → Result}
    (h : Ends c P (f (s.withMem (Mem.writeWord s.mem (dmaAddr s p) v)))) :
    Ends c P (Machine.andThen (Machine.memWrite s p v) f) := by
  unfold Machine.memWrite
  split
  · exact h
  · exact .fault fun he => nomatch he

end

end Sys2Proof.Machine
end

section
/-! The seven consumers: each claims the slot exactly on its request, and what it then leaves behind (R126 to R132). -/

namespace Sys2Proof.Machine

/-- The turn of `o`: on a request the slot ends with `o`, and without one the state is as `Left` says, the slot as before. -/
structure Consumer (o : BusOwner) (req : State → Bool) (Left : State → State → Prop) (turn : State → Result) : Prop where
  claims : ∀ s, req s → Ends True (SlotEnded o s) (turn s)
  passes : ∀ s, req s = false → Ends True (Left s) (turn s)
  left_slot : ∀ s t, Left s t → t.slot = s.slot

/-- A consumer whose turn without a request changes nothing. -/
abbrev QuietConsumer (o : BusOwner) (req : State → Bool) (turn : State → Result) : Prop :=
  Consumer o req (fun s t => t = s) turn

theorem QuietConsumer.of_slot {o : BusOwner} {req : State → Bool} {turn : State → Result}
    (h : ∀ s, ∃ r, turn s = (if req s then r else .next s) ∧ Ends True (SlotEnded o s) r) : QuietConsumer o req turn where
  claims s hreq := by
    obtain ⟨r, hturn, hr⟩ := h s
    rw [hturn, if_pos hreq]
    exact hr
  passes s hreq := by
    obtain ⟨r, hturn, -⟩ := h s
    rw [hturn, hreq]
    exact .next rfl
  left_slot s t ht := by rw [ht]

/-- From an unclaimed slot, the turn claims it exactly on a request (R133). -/
theorem Consumer.claimed_eq {o : BusOwner} {req : State → Bool} {Left : State → State → Prop} {turn : State → Result}
    (h : Consumer o req Left turn) (ho : o ≠ .none) {s t : State} (hs : s.out.bus = .none) (ht : turn s = .next t) :
    t.claimed = req s := by
  cases hreq : req s with
  | true =>
    have hend := (ht ▸ h.claims s hreq).of_next
    rw [hend.claimed, bne_iff_ne.2 ho]
  | false =>
    have hpass := (ht ▸ h.passes s hreq).of_next
    exact (SlotEnded.of_slot (h.left_slot s t hpass) hs).claimed

/-! ### Refresh, disk, audio, bitplanes, sprites -/

theorem refresh_consumer : QuietConsumer .refresh reqRefresh (fixedTurn .refresh) := by
  refine .of_slot fun s => ⟨.next (grant .refresh 0 0 s), ?_, .next (.grant 0 0 rfl)⟩
  rw [fixedTurn_refresh]
  split <;> rfl

theorem diskCountDown_slot {flush : State → State} (hf : ∀ u, (flush u).slot = u.slot) (s : State) :
    (diskCountDown flush s).slot = s.slot := by
  unfold diskCountDown
  dsimp only
  split
  · exact hf _
  · rfl

theorem diskReadWord_ended (s : State) : Ends True (SlotEnded .disk s) (diskReadWord s) := by
  unfold diskReadWord
  extract_lets w hit d1 s1 s2 d2
  have hsync : s2.slot = s.slot := by
    unfold s2
    split <;> rfl
  split
  · exact .next (.grant _ _ hsync)
  · split
    · exact .next (.grant _ _ hsync)
    · refine .andThen_memWrite (.withPtrAdd fun p => .next ?_)
      refine SlotEnded.of_start (SlotEnded.trans_slot ?_ (diskCountDown_slot (fun _ => rfl) _)) hsync
      exact .grantWrite (.inl rfl) w (State.withDsk_slot _ _)

theorem diskWriteWord_ended (s : State) : Ends True (SlotEnded .disk s) (diskWriteWord s) := by
  refine .withMemRead fun w => .withPtrAdd fun p => .next ?_
  have hgrant : SlotEnded .disk s (grant .disk s.dsk.pt w (s.withDsk { diskPutWord s.cfg w s.dsk with pt := p })) :=
    .grant _ _ rfl
  exact hgrant.trans_slot (diskCountDown_slot diskWriteFlush_slot _)

theorem diskSlot_ended (s : State) : Ends True (SlotEnded .disk s) (diskSlot s) := by
  unfold diskSlot
  split
  · exact .next (.grant _ _ rfl)
  · rename_i d _
    have hload : (trackBufferLoad d s).slot = s.slot := by
      rw [trackBufferLoad_touches]
      rfl
    dsimp only
    split
    · exact (diskWriteWord_ended _).mono id fun _ ht => ht.of_start hload
    · exact (diskReadWord_ended _).mono id fun _ ht => ht.of_start hload

theorem disk_consumer : QuietConsumer .disk reqDisk (fixedTurn .disk) :=
  .of_slot fun s => ⟨_, fixedTurn_disk s, diskSlot_ended s⟩

theorem audioSlot_ended (n : Fin 4) (s : State) : Ends True (SlotEnded .audio s) (audioSlot n s) := by
  unfold audioSlot
  refine .withMemRead fun w => .withPtrAdd fun p => .next ?_
  have hgrant : SlotEnded .audio s (grant .audio s.aud[n].ptr w (s.withAud (s.aud.set n (s.aud[n].fetched w p)))) :=
    .grant _ _ rfl
  split
  · exact hgrant.trans_slot rfl
  · exact hgrant

theorem audio_consumer : QuietConsumer .audio reqAudio (fixedTurn .audio) :=
  .of_slot fun s => by
    obtain ⟨n, hn⟩ := fixedTurn_audio s
    exact ⟨_, hn, audioSlot_ended n s⟩

theorem bitplaneSlot_ended (p : Fin 6) (s : State) : Ends True (SlotEnded .bitplane s) (bitplaneSlot p s) := by
  unfold bitplaneSlot withPlaneStep
  refine .withMemRead fun w => .withPtrAdd fun a => ?_
  have hwrite : ∀ a, Ends True (SlotEnded .bitplane s) (andThen (regWriteReg (.bpldat p) w (s.setBplpt p a)) fun s1 =>
      .next (grant .bitplane s.bpl.pt[p] w s1)) := fun a =>
    Ends.andThen ((regWriteReg_keepsSlot (.bpldat p) w).of_slot (t := s.setBplpt p a) (by rfl)) fun t ht =>
      .next (.grant _ _ ht)
  split
  · exact .withPtrAdd hwrite
  · exact hwrite a

theorem bitplane_consumer : QuietConsumer .bitplane reqBitplane bitplaneTurn :=
  .of_slot fun s => by
    obtain ⟨p, hp⟩ := bitplaneTurn_eq s
    exact ⟨_, hp, bitplaneSlot_ended p s⟩

theorem spriteSlot_ended (n : Fin 8) (k : Fin 2) (s : State) : Ends True (SlotEnded .sprite s) (spriteSlot n k s) := by
  unfold spriteSlot
  refine .withMemRead fun w => .withPtrAdd fun a => ?_
  exact Ends.andThen ((regWriteReg_keepsSlot _ w).of_slot rfl) fun t ht => .next (.grant _ _ ht)

theorem sprite_consumer : QuietConsumer .sprite reqSprite (fixedTurn .sprite) :=
  .of_slot fun s => by
    obtain ⟨n, k, hnk⟩ := fixedTurn_sprite s
    exact ⟨_, hnk, spriteSlot_ended n k s⟩

/-! ### The copper -/

/-- From `s` to `t` the copper's registers change at most. -/
def CopperMoved (s t : State) : Prop := ∃ c, t = s.withCop c

theorem execWait_moves (vp hp : Byte) (bfd : Bool) (ve : BitVec 7) (he : Byte) (s : State) :
    Ends True (CopperMoved s) (execWait vp hp bfd ve he s) := by
  unfold execWait
  split
  · refine .next ?_
    split
    · exact ⟨_, rfl⟩
    · exact ⟨s.cop, rfl⟩
  all_goals exact .next ⟨_, rfl⟩

theorem execSkip_moves (vp hp : Byte) (bfd : Bool) (ve : BitVec 7) (he : Byte) (s : State) :
    Ends True (CopperMoved s) (execSkip vp hp bfd ve he s) := by
  unfold execSkip
  split <;> exact .next ⟨_, rfl⟩

theorem CopperMoved.slot {s t : State} (h : CopperMoved s t) : t.slot = s.slot := by
  obtain ⟨c, rfl⟩ := h
  rfl

theorem exec_decodeCopper_keepsSlot (w1 w2 : Word) : KeepsSlot (exec (decodeCopper w1 w2)) := by
  intro s
  unfold decodeCopper
  split
  · show Ends _ _ (execMove _ _ s)
    unfold execMove
    split
    · exact .next rfl
    · split
      · exact .next rfl
      · exact regWrite_keepsSlot _ _ s
  · split
    · exact (execWait_moves _ _ _ _ _ s).mono id fun _ => CopperMoved.slot
    · exact (execSkip_moves _ _ _ _ _ s).mono id fun _ => CopperMoved.slot

/-- The second word's instruction is executed after the claim, and no instruction takes part in the slot. -/
theorem copperFetch_ended {s : State} (h : copperSlotOk s) : Ends True (SlotEnded .copper s) (copperFetch s) := by
  rw [copperFetch, if_pos h]
  refine .withMemRead fun w => .withPtrAdd fun p => ?_
  have hgrant : SlotEnded .copper s (grant .copper s.cop.pc w (s.withCop { s.cop with pc := p })) := .grant _ _ rfl
  dsimp only
  split
  · exact ((exec_decodeCopper_keepsSlot _ w).of_slot (State.withCop_slot _ _)).mono id fun _ ht => hgrant.trans_slot ht
  · exact .next (hgrant.trans_slot rfl)

theorem copperFetch_blocked {s : State} (h : copperSlotOk s = false) : copperFetch s = .next s := by
  rw [copperFetch, h]
  rfl

theorem copper_consumer : Consumer .copper reqCopper CopperMoved copperTurn where
  claims s hreq := by
    simp only [reqCopper, Bool.and_eq_true, Bool.or_eq_true, beq_iff_eq] at hreq
    obtain ⟨⟨hon, hst⟩, hok⟩ := hreq
    rw [copperTurn, if_pos hon]
    rcases hst with hst | hst <;> rw [hst]
    · exact copperFetch_ended hok
    · have hrestart : copperSlotOk (copperRestart s) := hok
      exact (copperFetch_ended hrestart).mono id fun _ ht => ht.of_start rfl
  passes s hreq := by
    have hself : CopperMoved s s := ⟨s.cop, rfl⟩
    unfold copperTurn
    split
    · rename_i hon
      split
      case h_1 => exact .next hself
      case h_2 hst =>
        have hblocked : copperSlotOk s = false := by simpa [reqCopper, hon, hst] using hreq
        rw [copperFetch_blocked (s := copperRestart s) hblocked]
        exact .next ⟨_, rfl⟩
      case h_3 hst =>
        have hblocked : copperSlotOk s = false := by simpa [reqCopper, hon, hst] using hreq
        rw [copperFetch_blocked hblocked]
        exact .next hself
      case h_4 =>
        split
        · exact execSkip_moves _ _ _ _ _ s
        · exact execWait_moves _ _ _ _ _ s
      case h_5 => exact execWait_moves _ _ _ _ _ s
      case h_6 => exact execSkip_moves _ _ _ _ _ s
      case h_7 | h_8 => exact .next ⟨_, rfl⟩
    · exact .next hself
  left_slot _ _ h := h.slot

/-! ### The blitter -/

theorem bltFetch_ended (m : BltMode) (x : BltChan) (s : State) : Ends True (SlotEnded .blitter s) (bltFetch m x s) :=
  .withMemRead fun _ => .withAreaStep fun _ => .next (.grant _ _ rfl)

theorem bltWriteD_ended (desc : Bool) (s : State) : Ends True (SlotEnded .blitter s) (bltWriteD desc s) :=
  .andThen_memWrite (.withAreaStep fun _ => .next (.grantWrite (.inr rfl) _ rfl))

theorem lineFetchC_ended (s : State) : Ends True (SlotEnded .blitter s) (lineFetchC s) := by
  refine .withMemRead fun w => .next (.grant _ _ ?_)
  split <;> rfl

/-- Without `USED` the slot of a dot is claimed and nothing is written (R217). -/
theorem lineWriteD_ended (m : LineMode) (s : State) : Ends True (SlotEnded .blitter s) (lineWriteD m s) := by
  unfold lineWriteD
  split
  · exact .andThen_memWrite (.next (.grantWrite (.inr rfl) _ rfl))
  · exact .next (.grant _ _ rfl)

theorem areaSlot_ended (m : BltMode) {ph : BltPhase} (hph : ph ≠ .idle) (s : State) :
    Ends True (SlotEnded .blitter s) (areaSlot m ph s) := by
  cases ph with
  | a | b | c => exact bltFetch_ended m _ s
  | d => exact bltWriteD_ended _ s
  | idle => exact absurd rfl hph

theorem lineSlot_ended (m : LineMode) {ph : BltPhase} (hph : ph ≠ .idle) (s : State) :
    Ends True (SlotEnded .blitter s) (lineSlot m ph s) := by
  cases ph with
  | a | b | c => exact lineFetchC_ended s
  | d => exact lineWriteD_ended m s
  | idle => exact absurd rfl hph

theorem areaNeeds_not_idle {ph : BltPhase} {b : Blitter} (h : areaNeeds ph b) : ph ≠ .idle := by
  rintro rfl
  cases h

theorem completeWord_slot (m : BltMode) (s : State) : (completeWord m s).slot = s.slot := by
  rw [completeWord_touches]
  rfl

theorem completeDot_keepsSlot (m : LineMode) : KeepsSlot (completeDot m) := fun s =>
  .lineMinorStep m fun _ _ => .lineMajorStep m fun b _ => .next (by rw [lineFinish_touches]; rfl)

theorem phaseAdvance_keepsSlot (n : Nat) {complete : State → Result} (hc : KeepsSlot complete) :
    KeepsSlot (phaseAdvance n complete) := by
  intro s
  unfold phaseAdvance
  split
  · exact hc.of_slot (State.withBlt_slot _ _)
  · exact .next rfl

/-- The phase at which the sequencer stands needs the bus. -/
def phaseNeeds (pat : List BltPhase) (needs : BltPhase → Bool) (s : State) : Bool := (pat[s.blt.phase.toNat]?).any needs

section
variable {pat : List BltPhase} {needs : BltPhase → Bool} {slot : BltPhase → State → Result} {complete : State → Result}
  {s : State}

theorem phaseNeeds_some {ph : BltPhase} (h : pat[s.blt.phase.toNat]? = some ph) : phaseNeeds pat needs s = needs ph := by
  rw [phaseNeeds, h, Option.any_some]

theorem phaseNeeds_none (h : pat[s.blt.phase.toNat]? = none) : phaseNeeds pat needs s = false := by
  rw [phaseNeeds, h, Option.any_none]

/-- A phase that needs the bus and has it claims the slot, and the next phase or the end of the period follows (R206). -/
theorem patternTurn_claims (hslot : ∀ ph, needs ph → Ends True (SlotEnded .blitter s) (slot ph s))
    (hc : KeepsSlot complete) (hneeds : phaseNeeds pat needs s) (hok : busOk s) :
    Ends True (SlotEnded .blitter s) (patternTurn pat needs slot complete s) := by
  unfold patternTurn
  split
  · exact .fault fun _ => trivial
  · rename_i ph hph
    rw [phaseNeeds_some hph] at hneeds
    rw [if_pos hneeds, if_pos hok]
    refine (hslot ph hneeds).andThen fun t ht => ?_
    exact (phaseAdvance_keepsSlot _ hc t).mono id fun _ hu => ht.trans_slot hu

/-- A phase that needs the bus and is refused changes nothing (R206). -/
theorem patternTurn_refused (hneeds : phaseNeeds pat needs s) (hok : busOk s = false) :
    patternTurn pat needs slot complete s = .next s := by
  unfold patternTurn
  split
  · rename_i hnone
    rw [phaseNeeds_none hnone] at hneeds
    cases hneeds
  · rename_i ph hph
    rw [phaseNeeds_some hph] at hneeds
    rw [if_pos hneeds, hok]
    rfl

/-- A phase that needs no bus leaves the slot to nobody (R206). -/
theorem patternTurn_passes (hc : KeepsSlot complete) (hneeds : phaseNeeds pat needs s = false) :
    Ends True (fun t => t.slot = s.slot) (patternTurn pat needs slot complete s) := by
  unfold patternTurn
  split
  · exact .fault fun _ => trivial
  · rename_i ph hph
    rw [phaseNeeds_some hph] at hneeds
    rw [if_neg (Bool.eq_false_iff.1 hneeds)]
    exact phaseAdvance_keepsSlot _ hc s

end

/-- The turn of a running blitter is a turn under the pattern of its control registers: in `lineTurn` or in the area mode that
the fill bits choose (R205, R206). -/
theorem exec_blitMode_eq (s : State) :
    (bltLineBit s.blt.con1 ∧ ∃ m, exec (decodeBlitMode s.blt.con1) s = lineTurn m s)
      ∨ (bltLineBit s.blt.con1 = false
        ∧ ∃ m, exec (decodeBlitMode s.blt.con1) s = areaTurn m s ∧ areaPattern s m = bltPattern s) := by
  unfold decodeBlitMode
  split
  · rename_i hline
    exact .inl ⟨hline, _, rfl⟩
  · rename_i hline
    have hline : bltLineBit s.blt.con1 = false := Bool.eq_false_iff.2 hline
    have hpat : ∀ m : BltMode, (m.efe || m.ife) = (s.blt.con1.getLsbD 4 || s.blt.con1.getLsbD 3) →
        areaPattern s m = bltPattern s := fun m hm => by
      simp only [areaPattern, hm, bltPattern, hline]
      rfl
    refine .inr ⟨hline, ?_⟩
    split
    · rename_i hefe
      exact ⟨_, rfl, hpat _ (by rw [hefe, Bool.true_or])⟩
    · rename_i hefe
      split
      · rename_i hife
        exact ⟨_, rfl, hpat _ (by rw [hife, Bool.or_true, Bool.or_true])⟩
      · rename_i hife
        exact ⟨_, rfl, hpat _ (by rw [Bool.eq_false_iff.2 hefe, Bool.eq_false_iff.2 hife])⟩

/-- What the phase of a running blitter needs. -/
theorem bltNeedsBus_running {s : State} (hrun : s.blt.st = .running) :
    bltNeedsBus s
      = phaseNeeds (bltPattern s) (fun ph => if bltLineBit s.blt.con1 then lineNeeds ph else areaNeeds ph s.blt) s := by
  unfold bltNeedsBus
  rw [hrun, phaseNeeds]
  cases (bltPattern s)[s.blt.phase.toNat]? <;> rfl

theorem bltNeedsBus_final {s : State} (hfin : s.blt.st = .final) : bltNeedsBus s = s.blt.dpending := by
  rw [bltNeedsBus, hfin]

/-- The turn of a running blitter, as one turn under its pattern: what its phases need, and what its slots and the end of its
period do to the slot (R206). -/
theorem exec_blitMode_pattern (s : State) (hrun : s.blt.st = .running) :
    ∃ (needs : BltPhase → Bool) (slot : BltPhase → State → Result) (complete : State → Result),
      exec (decodeBlitMode s.blt.con1) s = patternTurn (bltPattern s) needs slot complete s
        ∧ bltNeedsBus s = phaseNeeds (bltPattern s) needs s
        ∧ (∀ ph, needs ph → Ends True (SlotEnded .blitter s) (slot ph s)) ∧ KeepsSlot complete := by
  rcases exec_blitMode_eq s with ⟨hline, m, hturn⟩ | ⟨harea, m, hturn, hpat⟩
  · have hpat : s.cfg.linePattern = bltPattern s := by rw [bltPattern, if_pos hline]
    refine ⟨lineNeeds, lineSlot m, completeDot m, ?_, ?_, fun ph hph => ?_, completeDot_keepsSlot m⟩
    · rw [hturn, lineTurn, hpat]
    · simp only [bltNeedsBus_running hrun, hline, if_true]
    · exact lineSlot_ended m (bne_iff_ne.1 hph) s
  · refine ⟨fun ph => areaNeeds ph s.blt, areaSlot m, fun s => .next (completeWord m s), ?_, ?_, fun ph hph => ?_,
      fun s => ?_⟩
    · rw [hturn, areaTurn, hpat]
    · simp only [bltNeedsBus_running hrun, harea]
      rfl
    · exact areaSlot_ended m (areaNeeds_not_idle hph) s
    · exact .next (completeWord_slot m s)

/-- Refused the bus that its phase or its flush needs, the blitter changes nothing (R139, R206, R223). -/
theorem blitterTurn_refused {s : State} (hneeds : bltNeedsBus s) (hok : busOk s = false) : blitterTurn s = .next s := by
  unfold blitterTurn
  split
  · split
    case h_1 | h_2 => rfl
    case h_3 hrun =>
      obtain ⟨needs, slot, complete, hturn, hneed, -, -⟩ := exec_blitMode_pattern s hrun
      rw [hturn, patternTurn_refused (hneed ▸ hneeds) hok]
    case h_4 hfin =>
      rw [bltNeedsBus_final hfin] at hneeds
      rw [finalTurn, if_pos hneeds, hok]
      rfl
  · rfl

/-- A blitter that needs no bus leaves the slot to nobody. -/
theorem blitterTurn_idle {s : State} (hneeds : bltNeedsBus s = false) :
    Ends True (fun t => t.slot = s.slot) (blitterTurn s) := by
  unfold blitterTurn
  split
  · split
    case h_1 | h_2 => exact .next rfl
    case h_3 hrun =>
      obtain ⟨needs, slot, complete, hturn, hneed, -, hc⟩ := exec_blitMode_pattern s hrun
      rw [hturn]
      exact patternTurn_passes hc (hneed ▸ hneeds)
    case h_4 hfin =>
      rw [bltNeedsBus_final hfin] at hneeds
      rw [finalTurn, hneeds]
      exact .next rfl
  · exact .next rfl

theorem blitter_consumer : Consumer .blitter reqBlitter (fun s t => t.slot = s.slot) blitterTurn where
  claims s hreq := by
    simp only [reqBlitter, Bool.and_eq_true] at hreq
    obtain ⟨⟨hon, hneeds⟩, hok⟩ := hreq
    rw [blitterTurn, if_pos hon]
    split
    case h_1 hst | h_2 hst =>
      rw [bltNeedsBus, hst] at hneeds
      cases hneeds
    case h_3 hrun =>
      obtain ⟨needs, slot, complete, hturn, hneed, hslot, hc⟩ := exec_blitMode_pattern s hrun
      rw [hturn]
      exact patternTurn_claims hslot hc (hneed ▸ hneeds) hok
    case h_4 hfin =>
      rw [bltNeedsBus_final hfin] at hneeds
      rw [finalTurn, if_pos hneeds, if_pos hok]
      exact (bltWriteD_ended _ s).andThen fun _ ht => .next (ht.trans_slot rfl)
  passes s hreq := by
    cases hon : s.dmaOn dmaBlt with
    | false =>
      rw [blitterTurn, hon]
      exact .next rfl
    | true =>
      cases hneeds : bltNeedsBus s with
      | false => exact blitterTurn_idle hneeds
      | true =>
        rw [blitterTurn_refused hneeds (by simpa [reqBlitter, hon, hneeds] using hreq)]
        exact .next rfl
  left_slot _ _ h := h

end Sys2Proof.Machine
end

section
/-! The chain: the consumers' turns in order until one claims the slot, the free cycle and the CPU-block counter (R122, R133,
R140, R141). -/

namespace Sys2Proof.Machine

/-! ### Turns in order -/

/-- The turns of a list in order, each reached only while the slot is unclaimed (`chain_eq_takeTurns`). -/
def takeTurns : List (State → Result) → State → Result
  | [], s => .next s
  | turn :: rest, s => andThen (ifUnclaimed turn s) (takeTurns rest)

theorem ifUnclaimed_claimed {s : State} (h : s.claimed) (turn : State → Result) : ifUnclaimed turn s = .next s := if_pos h

theorem ifUnclaimed_unclaimed {s : State} (h : s.claimed = false) (turn : State → Result) : ifUnclaimed turn s = turn s := by
  rw [ifUnclaimed, h]
  rfl

theorem claimed_eq_false {s : State} (h : s.out.bus = .none) : s.claimed = false := by
  rw [State.claimed, h]
  rfl

theorem takeTurns_claimed {s : State} (h : s.claimed) (turns : List (State → Result)) : takeTurns turns s = .next s := by
  induction turns with
  | nil => rfl
  | cons turn rest ih => rw [takeTurns, ifUnclaimed_claimed h, andThen_next, ih]

theorem andThen_assoc (r : Result) (f g : State → Result) :
    andThen (andThen r f) g = andThen r fun s => andThen (f s) g := by
  cases r <;> rfl

theorem andThen_next_right (r : Result) : andThen r .next = r := by
  cases r <;> rfl

/-- The turns after that of refresh, in the order of the chain. -/
def turnsAfterRefresh : List (State → Result) :=
  [fixedTurn .disk, fixedTurn .audio, bitplaneTurn, fixedTurn .sprite, copperTurn, blitterTurn]

theorem chain_eq (s : State) : chain s = andThen (fixedTurn .refresh s) (takeTurns turnsAfterRefresh) := by
  simp only [chain, upperChain, turnsAfterRefresh, takeTurns, andThen_assoc, andThen_next_right]

theorem chain_eq_takeTurns {s : State} (h : s.out.bus = .none) :
    chain s = takeTurns (fixedTurn .refresh :: turnsAfterRefresh) s := by
  rw [chain_eq, takeTurns, ifUnclaimed_unclaimed (claimed_eq_false h)]

/-- A consumer's turn ends the slot on its request; else the slot ends as the turns after it have it end. -/
theorem Consumer.first {o p : BusOwner} {req : State → Bool} {Left : State → State → Prop} {turn : State → Result}
    {rest : List (State → Result)} (h : Consumer o req Left turn) (ho : o ≠ .none) {s : State} (hs : s.out.bus = .none)
    (hrest : ∀ u, Left s u → Ends True (SlotEnded p s) (takeTurns rest u)) :
    Ends True (SlotEnded (if req s then o else p) s) (takeTurns (turn :: rest) s) := by
  rw [takeTurns, ifUnclaimed_unclaimed (claimed_eq_false hs)]
  cases hreq : req s with
  | true =>
    refine (h.claims s hreq).andThen fun u hu => ?_
    rw [takeTurns_claimed (by rw [hu.claimed]; exact bne_iff_ne.2 ho)]
    exact .next hu
  | false => exact (h.passes s hreq).andThen hrest

/-- The chain gives the slot to the first request in the fixed order (R133). -/
theorem chain_ended {s : State} (hs : s.out.bus = .none) : Ends True (SlotEnded (granted s) s) (chain s) := by
  rw [chain_eq_takeTurns hs]
  refine refresh_consumer.first (by decide) hs ?_
  rintro _ rfl
  refine disk_consumer.first (by decide) hs ?_
  rintro _ rfl
  refine audio_consumer.first (by decide) hs ?_
  rintro _ rfl
  refine bitplane_consumer.first (by decide) hs ?_
  rintro _ rfl
  refine sprite_consumer.first (by decide) hs ?_
  rintro s rfl
  refine copper_consumer.first (by decide) hs ?_
  rintro _ ⟨c, rfl⟩
  have hblitter := blitter_consumer.first (rest := []) (by decide) (s := s.withCop c) hs fun u hu =>
    .next (.of_slot hu hs)
  exact hblitter.mono id fun _ ht => ht.of_start (State.withCop_slot s c)

/-- An arbitration tick ends the slot, tells whether it was free, and moves the CPU-block counter (R122, R140, R141). -/
theorem arbitrate_ended (wants : Bool) {s : State} (hs : s.out.bus = .none) :
    Ends True (fun t => ∃ u, SlotEnded (granted s) s u ∧ t = cpuBlockUpdate wants (freeCycle u)) (arbitrate wants s) :=
  (chain_ended hs).andThen fun u hu => .next ⟨u, hu, rfl⟩

@[simp] theorem freeCycle_bus (s : State) : (freeCycle s).out.bus = s.out.bus := by
  unfold freeCycle
  split <;> rfl

/-- The cycle is free when nobody claimed the slot (R140). -/
theorem freeCycle_freeCycle (s : State) : (freeCycle s).out.freeCycle = (!s.claimed || s.out.freeCycle) := by
  unfold freeCycle
  split
  · rename_i h
    rw [h]
    rfl
  · rename_i h
    rw [Bool.eq_false_iff.2 h]
    rfl

/-- Settles O33: the chain ends as its first request has it, and each turn claims the slot exactly on its own. -/
theorem chainGrantsTheFirstRequestInOrder : Obligations.ChainGrantsTheFirstRequestInOrder := by
  unfold Obligations.ChainGrantsTheFirstRequestInOrder
  refine ⟨fun wants s t hs hfree ht => ?_, fun s t hs => ?_⟩
  · obtain ⟨u, hu, rfl⟩ := (ht ▸ arbitrate_ended wants hs).of_next
    have hbus : (cpuBlockUpdate wants (freeCycle u)).out.bus = granted s := (freeCycle_bus u).trans hu.bus
    refine ⟨hbus, ?_⟩
    have hflag : (cpuBlockUpdate wants (freeCycle u)).out.freeCycle = (granted s == .none) := by
      show (freeCycle u).out.freeCycle = _
      rw [freeCycle_freeCycle, hu.claimed, hu.freeCycle, hfree, bne, Bool.not_not, Bool.or_false]
    rw [hflag, hbus, beq_iff_eq]
  · exact ⟨refresh_consumer.claimed_eq (by decide) hs, disk_consumer.claimed_eq (by decide) hs,
      audio_consumer.claimed_eq (by decide) hs, bitplane_consumer.claimed_eq (by decide) hs,
      sprite_consumer.claimed_eq (by decide) hs, copper_consumer.claimed_eq (by decide) hs,
      blitter_consumer.claimed_eq (by decide) hs⟩

/-! ### Refresh -/

theorem grant_refresh (s : State) :
    grant .refresh 0 0 s = { s with out := { s.out with bus := .refresh, dmaAddress := 0, dmaValue := 0 } } := by
  have hmask : (0 : Long) &&& s.cfg.chipAddrMask = 0 := BitVec.zero_and
  rw [grant, hmask]
  rfl

theorem owner_refreshRow (k : Fin 4) : ownerOf (refreshRow k) = .refresh := by
  revert k
  decide

/-- The refresh slots of R126. -/
theorem decodeSlot_refresh : ∀ cc ∈ [0xE2, 0x01, 0x03, 0x05],
    cc < 256 ∧ ((decodeSlot (BitVec.ofNat 8 cc)).filter fun i => ownerOf i == .refresh).isSome := by decide

theorem reqRefresh_of_colclock {s : State} (h : s.beam.hpos.toNat / 2 ∈ [0xE2, 0x01, 0x03, 0x05]) : reqRefresh s := by
  obtain ⟨hlt, hslot⟩ := decodeSlot_refresh _ h
  rw [reqRefresh, slotOf, fixedSlot, cc_low, cc_toNat, if_pos hlt]
  exact hslot

/-- Once refresh has the slot, no other turn is reached. -/
theorem chain_of_refresh {s : State} (h : reqRefresh s) : chain s = .next (grant .refresh 0 0 s) := by
  rw [chain_eq, fixedTurn_refresh, if_pos h, andThen_next]
  exact takeTurns_claimed rfl _

/-- Settles O35: at its colclocks refresh requests the slot, first in the chain, and its turn is the grant alone. -/
theorem refreshAlwaysWins : Obligations.RefreshAlwaysWins := by
  unfold Obligations.RefreshAlwaysWins
  refine ⟨fun k s => ?_, fun s h => ?_, fun k hk => ?_⟩
  · rw [exec_of_owner_refresh s (owner_refreshRow k), grant_refresh]
  · rw [chain_of_refresh (reqRefresh_of_colclock h), grant_refresh]
  · exact Nat.lt_of_lt_of_le (by decide) (Config.wf_beam hk).1

/-! ### The CPU-block counter -/

theorem busOk_eq (s : State) : busOk s = (decide (s.cpuBlock.toNat < 3) || s.dmacon.getLsbD 10) := rfl

theorem cpuBlockAfter_toNat (claimed wants : Bool) (n : BitVec 2) :
    (cpuBlockAfter claimed wants n).toNat = if !claimed then 0 else if wants then min (n.toNat + 1) 3 else n.toNat := by
  revert claimed wants n
  decide

/-- Settles O34: the counter moves by the owner that the chain ends with, and a blitter refused the bus leaves the state. -/
theorem cpuBlockCounterFollowsTheSlots : Obligations.CpuBlockCounterFollowsTheSlots := by
  unfold Obligations.CpuBlockCounterFollowsTheSlots
  refine ⟨fun wants s t hs ht => ?_, busOk_eq, fun s => blitterTurn_refused⟩
  obtain ⟨u, hu, rfl⟩ := (ht ▸ arbitrate_ended wants hs).of_next
  have hclaimed : (freeCycle u).claimed = (granted s != .none) := by rw [State.claimed, freeCycle_bus, hu.bus]
  have hblock : (freeCycle u).cpuBlock = s.cpuBlock := by rw [freeCycle_touches]; exact hu.cpuBlock
  rw [cpuBlockUpdate, State.withCpuBlock_cpuBlock, hclaimed, hblock, cpuBlockAfter_toNat]
  simp

end Sys2Proof.Machine
end

section
/-! The tick as a whole: chip memory and the grant at its end (R120, R153), and the advance of the beam (R150, R151, R171). -/

namespace Sys2Proof.Machine

/-! ### Chip memory -/

/-- An arbitration tick is the chain between the slot's start and the rest of the tick (R120). -/
theorem tick_of_arb {s : State} (h : s.isArbTick) (wants : Bool) :
    tick wants s = andThen (chain (slotEntry s)) fun u => .next (finishTick wants s u) := by
  have hphase2 : phase2 wants (phase1 (tickStart s)) = arbitrate wants (slotEntry s) := if_pos h
  rw [tick, hphase2, arbitrate, andThen_assoc]
  rfl

theorem tick_of_not_arb {s : State} (h : s.isArbTick = false) (wants : Bool) :
    tick wants s
      = .next (tickRest wants (spritePixels (tickStart s)) (playfield (tickStart s)) (phase1 (tickStart s))) := by
  have hphase2 : phase2 wants (phase1 (tickStart s)) = .next (phase1 (tickStart s)) := if_neg (Bool.eq_false_iff.1 h)
  rw [tick, hphase2]
  rfl

theorem isArbTick_eq (s : State) : s.isArbTick = decide (s.beam.hpos.toNat % 2 = 0) := by
  rw [State.isArbTick, BitVec.getLsbD, Nat.testBit_zero]
  rcases Nat.mod_two_eq_zero_or_one s.beam.hpos.toNat with h | h <;> rw [h] <;> rfl

theorem slotEntry_slot (s : State) : (slotEntry s).slot = ⟨s.cfg, s.mem, s.cpuBlock, .none, false, 0⟩ := by
  rw [slotEntry, housekeeping_slot, phase1_slot, tickStart_slot]

/-- The free cycle and the CPU-block counter after the chain touch neither the grant nor chip memory. -/
theorem finishTick_grant {wants : Bool} {s t u : State} (h : t = finishTick wants s u) :
    t.out.bus = u.out.bus ∧ t.out.dmaAddress = u.out.dmaAddress ∧ t.mem = u.mem := by
  have hslot : t.slot = (cpuBlockUpdate wants (freeCycle u)).slot := by rw [h, finishTick, tickRest_slot]
  have hfree : (freeCycle u).out.bus = u.out.bus ∧ (freeCycle u).out.dmaAddress = u.out.dmaAddress
      ∧ (freeCycle u).mem = u.mem := by
    unfold freeCycle
    split <;> exact ⟨rfl, rfl, rfl⟩
  obtain ⟨hbus', haddr', hmem'⟩ := hfree
  simp only [State.slot, Slot.mk.injEq] at hslot
  obtain ⟨-, hmem, -, hbus, -, haddr⟩ := hslot
  exact ⟨hbus.trans hbus', haddr.trans haddr', hmem.trans hmem'⟩

/-- What an arbitration tick can do to chip memory (R63, R153). -/
theorem tick_of_arb_mem {wants : Bool} {s t : State} (h : s.isArbTick) (ht : tick wants s = .next t) :
    SameMem s t ∨ (t.out.bus = .disk ∨ t.out.bus = .blitter) ∧ SameMemOutsideWord t.out.dmaAddress.toNat s t := by
  have hslot := slotEntry_slot s
  simp only [State.slot, Slot.mk.injEq] at hslot
  obtain ⟨-, hmem, -, hbus, -, -⟩ := hslot
  rw [tick_of_arb h] at ht
  obtain ⟨u, hu, hut⟩ := (andThen_eq_next_iff _ _ _).1 ht
  have hend := (hu ▸ chain_ended hbus).of_next
  obtain ⟨htbus, htaddr, htmem⟩ := finishTick_grant (Host.Outcome.next.inj hut).symm
  unfold SameMem SameMemOutsideWord
  rw [htbus, htaddr, htmem, hend.bus, ← hmem]
  exact hend.mem

/-- On another tick nothing is granted and chip memory stays. -/
theorem tick_of_not_arb_slot {wants : Bool} {s t : State} (h : s.isArbTick = false) (ht : tick wants s = .next t) :
    t.slot = ⟨s.cfg, s.mem, s.cpuBlock, .none, false, 0⟩ := by
  rw [tick_of_not_arb h] at ht
  rw [← Host.Outcome.next.inj ht, tickRest_slot, phase1_slot, tickStart_slot]

/-- Settles O36: only the chain writes chip memory, in the slot that the disk or the blitter has; on another tick the slot
stays as the tick's start made it. -/
theorem tickWritesAtMostTheReportedWord : Obligations.TickWritesAtMostTheReportedWord := by
  unfold Obligations.TickWritesAtMostTheReportedWord
  intro wants s t ht
  cases harb : s.isArbTick with
  | true =>
    refine ⟨tick_of_arb_mem harb ht, fun hodd => ?_⟩
    rw [isArbTick_eq, hodd] at harb
    cases harb
  | false =>
    have hslot := tick_of_not_arb_slot harb ht
    simp only [State.slot, Slot.mk.injEq] at hslot
    obtain ⟨-, hmem, -, hbus, hfree, -⟩ := hslot
    have hsame : SameMem s t := fun b => by rw [hmem]
    exact ⟨.inl hsame, fun _ => ⟨hbus, hfree, hsame⟩⟩

/-! ### The beam -/

section
variable {s : State}

theorem beamAdvance_inLine (h : s.beam.hpos.toNat + 1 ≠ s.cfg.lineTicks) :
    beamAdvance s = s.withBeam { s.beam with hpos := s.beam.hpos + 1 } := if_neg h

theorem beamAdvance_lineEnd (h : s.beam.hpos.toNat + 1 = s.cfg.lineTicks) : beamAdvance s = lineStart (nextLine s) := if_pos h

theorem nextLine_inField (h : s.beam.vpos.toNat + 1 ≠ fieldLines s) :
    nextLine s = s.withBeam { s.beam with hpos := 0, vpos := s.beam.vpos + 1 } := if_neg h

theorem nextLine_fieldEnd (h : s.beam.vpos.toNat + 1 = fieldLines s) :
    nextLine s = fieldStart (s.withBeam { s.beam with hpos := 0, vpos := 0 }) := if_pos h

theorem nextLine_bpl (s : State) : (nextLine s).bpl = s.bpl := by
  rw [nextLine_touches]
  rfl

theorem lineStart_spr (s : State) (n : Fin 8) : (lineStart s).spr[n] = s.spr[n].lineStart s.beam.vpos := by
  simp [lineStart]

theorem fieldStart_spr (s : State) (n : Fin 8) : (fieldStart s).spr[n] = { s.spr[n] with dma := .fetchCtl } := by
  simp [fieldStart, copperFieldStart, raiseIrq]

end

/-- The vertical check of a sprite at the start of a line (R171, R179). -/
theorem Sprite.lineStart_eq (vpos : Word) (p : Sprite) : p.lineStart vpos = { p with active := false, dma := (
    if p.dma = .fetchCtl then .fetchCtl
    else if vpos.extractLsb' 0 9 = BitVec.ofBool (p.ctl.getLsbD 1) ++ p.ctl.extractLsb' 8 8 then .fetchCtl
    else if vpos.extractLsb' 0 9 = BitVec.ofBool (p.ctl.getLsbD 2) ++ p.pos.extractLsb' 8 8 then .fetchData
    else p.dma) } := by
  unfold Sprite.lineStart Sprite.verticalCheck Sprite.vstop Sprite.vstart
  dsimp only
  split
  · rename_i hctl
    rw [hctl]
  · split
    · rfl
    · split <;> rfl

/-- Settles O37: the advance inside a line, at the end of a line and at the end of a field. -/
theorem beamAdvanceWrapsLinesAndFields : Obligations.BeamAdvanceWrapsLinesAndFields := by
  unfold Obligations.BeamAdvanceWrapsLinesAndFields
  intro s _ _ t lines field
  refine ⟨fun hin => beamAdvance_inLine (Nat.ne_of_lt hin), fun hend => ?_⟩
  have ht : t = lineStart (nextLine s) := beamAdvance_lineEnd hend
  have hspr : ∀ n : Fin 8, t.spr[n] = (nextLine s).spr[n].lineStart t.beam.vpos := fun n => by
    rw [ht, lineStart_spr]
    rfl
  refine ⟨beamAdvance_touches s, fun hfield => ?_, fun hfield => ?_, ?_, fun n => ⟨fun hfield => ?_, fun hfield => ?_⟩⟩
  · rw [ht, nextLine_inField hfield]
    exact ⟨rfl, rfl, rfl, rfl⟩
  · rw [ht, nextLine_fieldEnd hfield]
    exact ⟨rfl, rfl, rfl, rfl⟩
  · have hbpl : t.bpl = (nextLine s).bpl.lineStart := by rw [ht]; rfl
    rw [hbpl, nextLine_bpl]
    rfl
  · rw [hspr, nextLine_fieldEnd hfield, fieldStart_spr, Sprite.lineStart_eq]
    rfl
  · rw [hspr, nextLine_inField hfield, Sprite.lineStart_eq]
    rfl

end Sys2Proof.Machine
end

section
/-! Sprite rows and the display registers: what each register write stores, arms and disarms (R66, R172, R181), and the word
that a sprite row fetches (R177, R178). -/

namespace Sys2Proof.Machine

/-! ### Register writes -/

/-- Settles O32: each clause is the register's own rule; the write of a plane's data register asks whether it is plane 1. -/
theorem displayRegisterWritesStoreArmAndDisarm : Obligations.DisplayRegisterWritesStoreArmAndDisarm := by
  unfold Obligations.DisplayRegisterWritesStoreArmAndDisarm
  intro v i n p s
  refine ⟨rfl, rfl, rfl, rfl, rfl, rfl, rfl, rfl, rfl, rfl, rfl, rfl, rfl, rfl, rfl, rfl, fun hp => ?_, ?_⟩
  · simp only [regWriteReg, Bitplane.writeDat, if_neg hp]
    rfl
  · rintro rfl
    rfl

/-! ### Sprite rows -/

/-- Two changes of one sprite are one. -/
theorem State.mapSpr_mapSpr (s : State) (n : Fin 8) (f g : Sprite → Sprite) :
    (s.mapSpr n f).mapSpr n g = s.mapSpr n fun p => g (f p) := by
  simp [State.mapSpr, State.withSpr]

/-- Sprite `p` after word `k` of its slot has brought `w` (R178). -/
def Sprite.takeWord (k : Fin 2) (w : Word) (p : Sprite) : Sprite :=
  if p.dma = .fetchCtl then if k = 0 then { p with pos := w } else { p with ctl := w, armed := false, dma := .idle }
  else if k = 0 then { p with data := w, armed := true } else { p with datb := w }

/-- The register write of a sprite's slot changes that sprite alone; with the DMA state after the word it is `takeWord`. -/
theorem regWriteReg_spriteReg (n : Fin 8) (k : Fin 2) (st : SprDmaState) (w : Word) (s : State) :
    ∃ f : Sprite → Sprite, regWriteReg (spriteReg n k st) w s = .next (s.mapSpr n f)
      ∧ ∀ p : Sprite, p.dma = st → { f p with dma := spriteDmaAfter k st } = p.takeWord k w := by
  have hk : k = 0 ∨ k = 1 := by omega
  rcases hk with rfl | rfl <;> cases st <;> exact ⟨_, rfl, fun p hp => by cases p; cases hp; rfl⟩

theorem spriteSlot_of_fits {n : Fin 8} {s : State} (hrange : dmaInRange s s.spr[n].pt) (hfits : ptrFits s.spr[n].pt 2)
    (k : Fin 2) : spriteSlot n k s = .next (grant .sprite s.spr[n].pt (Mem.readWord s.mem (dmaAddr s s.spr[n].pt))
      (s.mapSpr n fun p => { p with pt := p.pt + 2 }.takeWord k (Mem.readWord s.mem (dmaAddr s s.spr[n].pt)))) := by
  obtain ⟨f, hwrite, htake⟩ := regWriteReg_spriteReg n k s.spr[n].dma (Mem.readWord s.mem (dmaAddr s s.spr[n].pt))
    (s.mapSpr n fun p => { p with pt := s.spr[n].pt + 2 })
  rw [spriteSlot, withMemRead_of_inRange hrange, withPtrAdd_of_fits hfits]
  show andThen (regWriteReg _ _ (s.mapSpr n fun p => { p with pt := s.spr[n].pt + 2 })) _ = _
  rw [hwrite, andThen_next, State.mapSpr_mapSpr, State.mapSpr_mapSpr]
  simp only [State.mapSpr, htake]

/-- Settles O41: the row is its sprite's turn, which fetches on the test of R177 and reads inside memory. -/
theorem spriteRowFetchesOneWord : Obligations.SpriteRowFetchesOneWord := by
  unfold Obligations.SpriteRowFetchesOneWord
  intro n k s p w q
  rw [exec_spriteRow]
  have hfetch : s.dmaOn 5 → p.dma ≠ .idle → spriteTurnAt n k s = spriteSlot n k s := fun hon hdma =>
    if_pos (Bool.and_eq_true_iff.2 ⟨hon, bne_iff_ne.2 hdma⟩)
  refine ⟨fun hon hdma hrange hfits => ?_, fun hquiet => ?_, fun hon hdma hrange => ?_⟩
  · rw [hfetch hon hdma, spriteSlot_of_fits hrange hfits]
    rfl
  · refine if_neg fun hwants => ?_
    obtain ⟨hon, hdma⟩ := Bool.and_eq_true_iff.1 hwants
    exact hquiet.elim (fun hoff => Bool.false_ne_true (hoff.symm.trans hon)) (bne_iff_ne.1 hdma)
  · rw [hfetch hon hdma]
    exact if_neg (Bool.eq_false_iff.1 hrange)

end Sys2Proof.Machine
end

section
/-! Bitplane fetch: the fields it reads, the plane a turn fetches (R167 to R170), and the fetch window (R164 to R166). -/

namespace Sys2Proof.Machine

/-! ### Fields -/

theorem toList_getD_eq_getElem {α : Type} {n : Nat} (v : Vector α n) (i : Fin n) (d : α) : v.toList.getD i d = v[i] := by
  simp [List.getD]

theorem Bitplane.planes_eq (b : Bitplane) : b.planes = min (b.con0.toNat / 4096 % 8) 6 := by
  simp [Bitplane.planes, Nat.shiftRight_eq_div_pow]

theorem highByte_toNat (x : Word) : (x.extractLsb' 8 8).toNat = x.toNat / 256 := by
  have hx := x.isLt
  rw [BitVec.extractLsb'_toNat, Nat.shiftRight_eq_div_pow, Nat.mod_eq_of_lt (by omega)]

theorem lowByte_toNat (x : Word) : (x.extractLsb' 0 8).toNat = x.toNat % 256 := by
  rw [BitVec.extractLsb'_toNat, Nat.shiftRight_zero]

/-- The stop line has the complement of bit 15 as its bit 8 (R164). -/
theorem diwVStop_eq (b : Bitplane) :
    diwVStop b = (if b.diwstop.getLsbD 15 then 0 else 256) + b.diwstop.toNat / 256 := by
  rw [diwVStop, BitVec.toNat_append, ← Nat.shiftLeft_add_eq_or_of_lt (BitVec.isLt _), highByte_toNat]
  cases b.diwstop.getLsbD 15 <;> rfl

theorem vdiwOpen_iff (s : State) : vdiwOpen s ↔ s.bpl.diwstrt.toNat / 256 ≤ s.beam.vpos.toNat
    ∧ s.beam.vpos.toNat < (if s.bpl.diwstop.getLsbD 15 then 0 else 256) + s.bpl.diwstop.toNat / 256 := by
  rw [vdiwOpen, diwVStart, highByte_toNat, diwVStop_eq, Bool.and_eq_true, decide_eq_true_eq, decide_eq_true_eq]

/-- The schedule at the position modulo its length (R167). -/
theorem planeAt_eq (s : State) : planeAt s = if s.bpl.con0.getLsbD 15
    then s.cfg.schedHires.toList.getD (s.bpl.ddfPos.toNat % 4) 0 else s.cfg.schedLores.toList.getD (s.bpl.ddfPos.toNat % 8) 0 := by
  have hmod (n : Nat) : (s.bpl.ddfPos.extractLsb' 0 n).toFin.val = s.bpl.ddfPos.toNat % 2 ^ n := by
    simp
  rw [planeAt, ← toList_getD_eq_getElem _ _ 0, ← toList_getD_eq_getElem _ _ 0, hmod 2, hmod 3]
  rfl

/-! ### Fetch -/

/-- A turn wants a plane exactly inside the three windows of R129 and with a plane in use scheduled. -/
theorem wantedPlane_eq (s : State) :
    wantedPlane s = if h : bitplaneFetching s ∧ 1 ≤ (planeAt s).val ∧ (planeAt s).val ≤ s.bpl.planes then
      some ⟨(planeAt s).val - 1, by have := (planeAt s).isLt; omega⟩ else none := by
  unfold wantedPlane
  split <;> simp [*]

theorem Bitplane.finalFetch_eq (b : Bitplane) :
    b.finalFetch = (b.ddfLast && (!b.con0.getLsbD 15 || decide (4 ≤ b.ddfPos.toNat % 8))) := by
  have hbit : b.ddfPos.getLsbD 2 = decide (4 ≤ b.ddfPos.toNat % 8) := by
    rw [BitVec.getLsbD, Nat.testBit_eq_decide_div_mod_eq]
    exact decide_eq_decide.2 (by omega)
  rw [Bitplane.finalFetch, hbit]
  rfl

theorem Bitplane.modulo_eq (b : Bitplane) (p : Fin 6) : b.modulo p = if p.val % 2 = 0 then b.mod1 else b.mod2 := by
  simp [Bitplane.modulo, oddPlane]

/-- Both sums of a plane's pointer inside the container (R169, R170, R80). -/
theorem withPlaneStep_of_fits {b : Bitplane} {p : Fin 6} {m : Int}
    (hm : m = if b.finalFetch then (b.modulo p).toInt else 0) (h2 : ptrFits b.pt[p] 2) (hmod : ptrFits (b.pt[p] + 2) m)
    (k : Long → Result) : withPlaneStep b p k = k (b.pt[p] + 2 + BitVec.ofInt 32 m) := by
  rw [withPlaneStep, withPtrAdd_of_fits h2]
  subst hm
  split at hmod
  · rename_i hlast
    rw [if_pos hlast, if_pos hlast]
    exact withPtrAdd_of_fits hmod k
  · rename_i hlast
    rw [if_neg hlast, if_neg hlast]
    simp

/-! ### The fetch window -/

theorem ddfClamp_eq (k : Config) (v : Word) :
    ddfClamp k v = max k.ddfMin.toNat (min (v.toNat / 4 % 64 * 4) k.ddfMax.toNat) := by
  have hfield : (v &&& 0x00FC).toNat = v.toNat / 4 % 64 * 4 := by
    have hmask : (0x00FC : Word).toNat = (2 ^ 6 - 1) * 2 ^ 2 := rfl
    have hvalue : v.toNat / 4 % 64 * 4 = v.toNat / 2 ^ 2 % 2 ^ 6 * 2 ^ 2 := rfl
    rw [BitVec.toNat_and, hmask, hvalue]
    apply Nat.eq_of_testBit_eq
    intro i
    rw [Nat.testBit_and, Nat.testBit_mul_two_pow, Nat.testBit_mul_two_pow, Nat.testBit_two_pow_sub_one,
      Nat.testBit_mod_two_pow, Nat.testBit_div_two_pow]
    by_cases hi : 2 ≤ i <;> simp [hi, Bool.and_comm]
  rw [ddfClamp, hfield]

theorem lowBits_eq_zero_iff (x : Byte) : x.extractLsb' 0 3 = 0 ↔ x.toNat % 8 = 0 := by
  simp [← BitVec.toNat_inj]

theorem housekeeping_bpl (s : State) : (housekeeping s).bpl = (ddfTrack s).bpl := by
  rw [housekeeping, blitterStartTick_touches, audioPeriodTicks_touches]
  rfl

theorem ddfTrack_bpl (s : State) : (ddfTrack s).bpl =
    if s.bpl.ddfOpen then
      if (s.bpl.ddfPos + 1).toNat % 8 ≠ 0 then { s.bpl with ddfPos := s.bpl.ddfPos + 1 }
      else if s.bpl.ddfLast then { s.bpl with ddfPos := s.bpl.ddfPos + 1, ddfOpen := false, ddfLast := false }
      else { s.bpl with ddfPos := s.bpl.ddfPos + 1, ddfLast := decide (ddfStop s ≤ s.cc.toNat) }
    else if s.cc.toNat = ddfStart s then
      { s.bpl with ddfOpen := true, ddfPos := 0, ddfLast := decide (ddfStop s ≤ s.cc.toNat) }
    else s.bpl := by
  unfold ddfTrack
  dsimp only
  split
  · by_cases hunit : (s.bpl.ddfPos + 1).toNat % 8 = 0
    · rw [if_pos ((lowBits_eq_zero_iff _).2 hunit), if_neg (not_not.2 hunit)]
      split
      · rfl
      · rename_i hlast
        split <;> simp [*]
    · rw [if_neg (mt (lowBits_eq_zero_iff _).1 hunit), if_pos hunit]
      rfl
  · split <;> rfl

/-- Settles O42: the tests of a turn are those of R129 and R167, the fetch is `bitplaneSlot`, and housekeeping moves the
window as `ddfTrack` does. -/
theorem bitplaneTurnFetchesTheScheduledPlane : Obligations.BitplaneTurnFetchesTheScheduledPlane := by
  unfold Obligations.BitplaneTurnFetchesTheScheduledPlane
  intro p s vstop inWindow hires plane used wanted a w last mod
  have hplane : planeAt s = plane := planeAt_eq s
  have hwanted : wanted ↔ bitplaneFetching s ∧ 1 ≤ (planeAt s).val ∧ (planeAt s).val ≤ s.bpl.planes := by
    rw [bitplaneFetching, Bool.and_eq_true, Bool.and_eq_true, vdiwOpen_iff, hplane, Bitplane.planes_eq]
    exact ⟨fun ⟨hv, hd, ho, hp⟩ => ⟨⟨⟨hv, hd⟩, ho⟩, hp⟩, fun ⟨⟨⟨hv, hd⟩, ho⟩, hp⟩ => ⟨hv, hd, ho, hp⟩⟩
  refine ⟨fun h => ?_, fun h hp hrange h2 hmod => ?_, ?_⟩
  · rw [bitplaneTurn, wantedPlane_eq, dif_neg (mt hwanted.2 h)]
  · have hsome : wantedPlane s = some p := by
      rw [wantedPlane_eq, dif_pos (hwanted.1 h)]
      congr
      omega
    have hmodulo : mod = if s.bpl.finalFetch then (s.bpl.modulo p).toInt else 0 := by
      rw [Bitplane.finalFetch_eq, Bitplane.modulo_eq]
    rw [bitplaneTurn, hsome]
    dsimp only
    rw [bitplaneSlot, withMemRead_of_inRange hrange, withPlaneStep_of_fits hmodulo h2 hmod]
    rfl
  · rw [housekeeping_bpl, ddfTrack_bpl, cc_toNat, ddfStart, ddfStop, ddfClamp_eq, ddfClamp_eq]

end Sys2Proof.Machine
end

section
/-! The display pipeline: plane bits are sampled before the shift, due groups are latched (R172 to R174), and sprites start and
shift (R182). -/

namespace Sys2Proof.Machine

/-! ### One group of planes -/

/-- The latch of the odd or of the even planes is pending (R172). -/
def Bitplane.pending (odd : Bool) (b : Bitplane) : Bool := if odd then b.pendingOdd else b.pendingEven

/-- The ticks still to wait for the latch of a group (R174). -/
def Bitplane.due (odd : Bool) (b : Bitplane) : Byte := if odd then b.dueOdd else b.dueEven

/-- The group is latched in this phase 1 (R174). -/
def Bitplane.latches (odd : Bool) (b : Bitplane) : Bool := b.pending odd && b.due odd == 0

theorem phase1_bpl (s : State) : (phase1 s).bpl = s.bpl.shiftOut.latchOdd.latchEven := rfl

theorem phase1_spr (s : State) (n : Fin 8) : (phase1 s).spr[n] = (s.spr[n].compare s.beam.hpos).shiftHold := by
  simp [phase1, bitplaneShiftAndLatch, spriteCompareAndShift]

theorem Bitplane.latchOdd_eq (b : Bitplane) : b.latchOdd = { b with
    shift := Vector.ofFn fun p => if oddPlane p ∧ b.latches true then b.dat[p] else b.shift[p]
    pendingOdd := b.pendingOdd && b.dueOdd != 0
    dueOdd := if b.pendingOdd ∧ b.dueOdd ≠ 0 then b.dueOdd - 1 else b.dueOdd } := by
  cases b
  unfold Bitplane.latchOdd Bitplane.latches Bitplane.latchGroup
  dsimp only [pending, due]
  split
  · split <;> simp_all
  · simp_all

theorem Bitplane.latchEven_eq (b : Bitplane) : b.latchEven = { b with
    shift := Vector.ofFn fun p => if oddPlane p = false ∧ b.latches false then b.dat[p] else b.shift[p]
    pendingEven := b.pendingEven && b.dueEven != 0
    dueEven := if b.pendingEven ∧ b.dueEven ≠ 0 then b.dueEven - 1 else b.dueEven } := by
  cases b
  unfold Bitplane.latchEven Bitplane.latches Bitplane.latchGroup
  dsimp only [pending, due]
  split
  · split <;> simp_all
  · simp_all

/-- Both groups at once: every register moves or is loaded (R173, R174). -/
theorem phase1_bpl_eq (s : State) : (phase1 s).bpl = { s.bpl with
    shift := Vector.ofFn fun p => if s.bpl.latches (oddPlane p) then s.bpl.dat[p] else s.bpl.shift[p] <<< s.bpl.rate
    pendingOdd := s.bpl.pendingOdd && s.bpl.dueOdd != 0
    dueOdd := if s.bpl.pendingOdd ∧ s.bpl.dueOdd ≠ 0 then s.bpl.dueOdd - 1 else s.bpl.dueOdd
    pendingEven := s.bpl.pendingEven && s.bpl.dueEven != 0
    dueEven := if s.bpl.pendingEven ∧ s.bpl.dueEven ≠ 0 then s.bpl.dueEven - 1 else s.bpl.dueEven } := by
  rw [phase1_bpl, Bitplane.latchEven_eq, Bitplane.latchOdd_eq]
  congr 1
  refine congrArg Vector.ofFn (funext fun p => ?_)
  cases hp : oddPlane p <;> simp [Bitplane.shiftOut, Bitplane.latches, Bitplane.pending, Bitplane.due, hp]

theorem phase1_shift (s : State) (p : Fin 6) : (phase1 s).bpl.shift[p]
    = if s.bpl.latches (oddPlane p) then s.bpl.dat[p] else s.bpl.shift[p] <<< s.bpl.rate := by
  simp [phase1_bpl_eq]

theorem phase1_dat (s : State) : (phase1 s).bpl.dat = s.bpl.dat := by
  rw [phase1_bpl_eq]

theorem phase1_pending (s : State) (odd : Bool) :
    (phase1 s).bpl.pending odd = (s.bpl.pending odd && s.bpl.due odd != 0) := by
  rw [phase1_bpl_eq]
  cases odd <;> rfl

theorem phase1_due {s : State} {odd : Bool} (hpending : s.bpl.pending odd) (hdue : s.bpl.due odd ≠ 0) :
    (phase1 s).bpl.due odd = s.bpl.due odd - 1 := by
  rw [phase1_bpl_eq]
  cases odd <;> exact if_pos (And.intro hpending hdue)

/-! ### The latch after its delay -/

theorem phase1_iterate_dat (u : State) (j : Nat) : (phase1^[j] u).bpl.dat = u.bpl.dat := by
  induction j with
  | zero => rfl
  | succ j ih => rw [Function.iterate_succ_apply', phase1_dat, ih]

/-- A pending group stays pending, one tick nearer, in each phase 1 up to its delay (R174). -/
theorem pending_until_due {u : State} {odd : Bool} (hpending : u.bpl.pending odd) :
    ∀ j, j ≤ (u.bpl.due odd).toNat → (phase1^[j] u).bpl.pending odd
      ∧ ((phase1^[j] u).bpl.due odd).toNat = (u.bpl.due odd).toNat - j := by
  intro j
  induction j with
  | zero => exact fun _ => ⟨hpending, rfl⟩
  | succ j ih =>
    intro hj
    obtain ⟨hp, hd⟩ := ih (by omega)
    have hne : (phase1^[j] u).bpl.due odd ≠ 0 := fun h => by
      rw [h] at hd
      change 0 = _ at hd
      omega
    rw [Function.iterate_succ_apply', phase1_pending, phase1_due hp hne, hp]
    refine ⟨by simpa using hne, ?_⟩
    bv_omega

/-- The phase 1 after its delay latches the group. -/
theorem latches_when_due {u : State} {odd : Bool} (hpending : u.bpl.pending odd) :
    (phase1^[(u.bpl.due odd).toNat] u).bpl.latches odd := by
  obtain ⟨hp, hd⟩ := pending_until_due hpending _ (Nat.le_refl _)
  rw [Nat.sub_self] at hd
  rw [Bitplane.latches, hp, BitVec.eq_of_toNat_eq (y := 0) hd]
  rfl

theorem not_pending_after_latch {s : State} {odd : Bool} (h : s.bpl.latches odd) : (phase1 s).bpl.pending odd = false := by
  rw [phase1_pending]
  obtain ⟨-, hd⟩ := Bool.and_eq_true_iff.1 h
  rw [beq_iff_eq.1 hd]
  simp

/-- In the phase 1 after its delay a pending group is latched: it is pending no more and its registers are loaded (R174). -/
theorem latched_after_delay {u : State} {odd : Bool} (hpending : u.bpl.pending odd) :
    (phase1^[(u.bpl.due odd).toNat + 1] u).bpl.pending odd = false
      ∧ ∀ p : Fin 6, oddPlane p = odd → (phase1^[(u.bpl.due odd).toNat + 1] u).bpl.shift[p] = u.bpl.dat[p] := by
  have hlatch := latches_when_due hpending
  rw [Function.iterate_succ_apply']
  refine ⟨not_pending_after_latch hlatch, fun p hp => ?_⟩
  rw [phase1_shift, hp, if_pos hlatch, phase1_iterate_dat]

/-! ### Playfield indices -/

theorem playfield_length (s : State) : (playfield s).length = s.bpl.rate := by
  simp [playfield]

theorem getLsbD_sixBits : ∀ (x5 x4 x3 x2 x1 x0 : Bool) (p : Fin 6),
    (BitVec.ofBool x5 ++ BitVec.ofBool x4 ++ BitVec.ofBool x3 ++ BitVec.ofBool x2 ++ BitVec.ofBool x1
      ++ BitVec.ofBool x0).getLsbD p = #v[x0, x1, x2, x3, x4, x5][p] := by decide

theorem Bitplane.getLsbD_pixelIndex (b : Bitplane) (sub : Nat) (p : Fin 6) :
    (b.pixelIndex sub).getLsbD p = b.pixelBit sub p := by
  have hbits := getLsbD_sixBits (b.pixelBit sub 5) (b.pixelBit sub 4) (b.pixelBit sub 3) (b.pixelBit sub 2)
    (b.pixelBit sub 1) (b.pixelBit sub 0) p
  refine hbits.trans ?_
  fin_cases p <;> rfl

/-- The bit of a plane in a playfield index: the top bits before the shift, 0 above the plane count (R173, R104). -/
theorem Bitplane.pixelBit_eq (b : Bitplane) (sub : Nat) (p : Fin 6) :
    b.pixelBit sub p = (decide (p.val < b.con0.toNat / 4096 % 8) && b.shift[p].getLsbD (15 - sub)) := by
  rw [Bitplane.pixelBit, Bitplane.planes_eq, decide_eq_decide.2 (by omega : _ ↔ p.val < b.con0.toNat / 4096 % 8)]

/-! ### Sprites -/

theorem Sprite.hstart_toNat (p : Sprite) : p.hstart.toNat = 2 * (p.pos.toNat % 256) + p.ctl.toNat % 2 := by
  have hlow : (BitVec.ofBool (p.ctl.getLsbD 0)).toNat = p.ctl.toNat % 2 := by
    rw [BitVec.getLsbD, Nat.testBit_zero]
    rcases Nat.mod_two_eq_zero_or_one p.ctl.toNat with h | h <;> rw [h] <;> rfl
  rw [Sprite.hstart, BitVec.toNat_append, ← Nat.shiftLeft_add_eq_or_of_lt (BitVec.isLt _), Nat.shiftLeft_eq, hlow,
    lowByte_toNat, Nat.mul_comm]

/-- The comparison of R182 on the beam position and the start written out. -/
theorem Sprite.compare_eq (hpos : Word) (q : Sprite) : q.compare hpos =
    if q.armed ∧ hpos.toNat = 2 * (q.pos.toNat % 256) + q.ctl.toNat % 2
    then { q with holdA := q.data, holdB := q.datb, active := true } else q := by
  have hstart : hpos = q.hstart.setWidth 16 ↔ hpos.toNat = 2 * (q.pos.toNat % 256) + q.ctl.toNat % 2 := by
    rw [← BitVec.toNat_inj, BitVec.toNat_setWidth, ← q.hstart_toNat, Nat.mod_eq_of_lt]
    exact Nat.lt_trans q.hstart.isLt (by decide)
  simp only [Sprite.compare, Bool.and_eq_true, beq_iff_eq, hstart]

theorem Sprite.shiftHold_of_active {q : Sprite} (h : q.active) :
    q.shiftHold = { q with holdA := q.holdA <<< 1, holdB := q.holdB <<< 1 } := if_pos h

theorem Sprite.shiftHold_of_not_active {q : Sprite} (h : q.active = false) : q.shiftHold = q := if_neg (Bool.eq_false_iff.1 h)

theorem Sprite.pixelValue_of_active {q : Sprite} (h : q.active) :
    q.pixelValue.toNat = 2 * (q.holdB.getLsbD 15).toNat + (q.holdA.getLsbD 15).toNat := by
  have htop : ∀ x : Word, x.extractLsb' 15 1 = BitVec.ofBool (x.getLsbD 15) := fun x => by
    ext i hi
    obtain rfl : i = 0 := by omega
    simp
  rw [Sprite.pixelValue, if_pos h, htop, htop]
  cases q.holdB.getLsbD 15 <;> cases q.holdA.getLsbD 15 <;> rfl

theorem Sprite.pixelValue_of_not_active {q : Sprite} (h : q.active = false) : q.pixelValue = 0 :=
  if_neg (Bool.eq_false_iff.1 h)

theorem spritePixels_getElem (s : State) (n : Fin 8) : (spritePixels s)[n] = (s.spr[n].compare s.beam.hpos).pixelValue := by
  simp [spritePixels]

theorem latchDelay_default (scroll : BitVec 4) (hires : Bool) :
    (latchDelay Config.default scroll hires).toNat = scroll.toNat := by
  revert scroll hires
  decide

/-- Settles O43: phase 1 on the planes is `phase1_bpl_eq`, on a sprite its comparison and shift; a group armed by the write of
BPL1DAT is latched as `latched_after_delay` says. -/
theorem displayPipelineShiftsAndLatches : Obligations.DisplayPipelineShiftsAndLatches := by
  unfold Obligations.DisplayPipelineShiftsAndLatches
  intro s t k
  have hk : s.bpl.rate = k := rfl
  refine ⟨rfl, ?shift, ?registers, hk ▸ playfield_length s, ?index, ?sprite, ?latch, latchDelay_default⟩
  case shift =>
    intro p due
    have hdue : due ↔ s.bpl.latches (oddPlane p) := by
      simp only [due, Bitplane.latches, Bitplane.pending, Bitplane.due, oddPlane]
      split <;> simp [*]
    have hshift := phase1_shift s p
    rw [hk] at hshift
    exact ⟨fun h => hshift.trans (if_pos (hdue.1 h)), fun h => hshift.trans (if_neg (mt hdue.2 h))⟩
  case registers =>
    have heq : t.bpl = _ := phase1_bpl_eq s
    rw [heq]
  case index =>
    intro sub pf p hpf
    obtain ⟨hsub, rfl⟩ := List.getElem?_eq_some_iff.1 hpf
    rw [← Bitplane.pixelBit_eq, ← Bitplane.getLsbD_pixelIndex]
    simp [playfield]
  case sprite =>
    intro n q c
    have hc : s.spr[n].compare s.beam.hpos = c := Sprite.compare_eq _ _
    rw [phase1_spr, spritePixels_getElem, hc]
    exact ⟨fun h => ⟨Sprite.shiftHold_of_active h, Sprite.pixelValue_of_active h⟩,
      fun h => ⟨Sprite.shiftHold_of_not_active h, Sprite.pixelValue_of_not_active h⟩⟩
  case latch =>
    intro v u hu odd even
    have hwrite : s.bpl.writeDat s.cfg 0 v = u.bpl := congrArg State.bpl (Host.Outcome.next.inj hu)
    have hpending (g : Bool) : u.bpl.pending g := by rw [← hwrite]; cases g <;> rfl
    have hodd : (u.bpl.due true).toNat = odd := by rw [← hwrite]; rfl
    have heven : (u.bpl.due false).toNat = even := by rw [← hwrite]; rfl
    rw [← hodd, ← heven]
    refine ⟨fun j hj => (pending_until_due (hpending true) j hj).1, fun j hj => (pending_until_due (hpending false) j hj).1,
      (latched_after_delay (hpending true)).1, (latched_after_delay (hpending false)).1, fun p => ?_⟩
    have hdue : (u.bpl.due (oddPlane p)).toNat
        = if p.val % 2 = 0 then (u.bpl.due true).toNat else (u.bpl.due false).toNat := by
      fin_cases p <;> rfl
    have hdat : u.bpl.dat[p] = if p = 0 then v else s.bpl.dat[p] := by
      rw [← hwrite]
      rcases eq_or_ne p 0 with rfl | hp
      · exact Vector.getElem_set_self (by decide)
      · rw [if_neg hp]
        exact Vector.getElem_set_ne (by decide) p.isLt fun h => hp (Fin.ext h.symm)
    rw [← hdue, ← hdat]
    exact (latched_after_delay (hpending _)).2 p rfl

end Sys2Proof.Machine
end

section
/-! Pixel output: the display window, the layer in front, and colours as ARGB32 (R104, R164, R184, R186). -/

namespace Sys2Proof.Machine

/-! ### Colours -/

/-- A nibble doubled into a byte of a colour does not overflow it (R104). -/
theorem doubledNibble_toNat (x : BitVec 4) {m : Long} (hm : 15 * m.toNat < 2 ^ 32) :
    (x.setWidth 32 * m).toNat = x.toNat * m.toNat := by
  have hx : x.toNat * m.toNat ≤ 15 * m.toNat := Nat.mul_le_mul_right _ (Nat.le_of_lt_succ x.isLt)
  rw [BitVec.toNat_mul, BitVec.toNat_setWidth, Nat.mod_eq_of_lt (Nat.lt_trans x.isLt (by decide)),
    Nat.mod_eq_of_lt (Nat.lt_of_le_of_lt hx hm)]

theorem or_eq_add_of_dvd {hi lo i : Nat} (hhi : 2 ^ i ∣ hi) (hlo : lo < 2 ^ i) : hi ||| lo = hi + lo := by
  obtain ⟨a, rfl⟩ := hhi
  exact (Nat.two_pow_add_eq_or_of_lt hlo a).symm

/-- The nibbles lie in different bytes, so the alternatives add up (R104). -/
theorem argb_toNat (c : BitVec 12) : (argb c).toNat
    = 4278190080 + c.toNat / 256 * 1114112 + c.toNat / 16 % 16 * 4352 + c.toNat % 16 * 17 := by
  have hc := c.isLt
  have hred : (c.extractLsb' 8 4).toNat = c.toNat / 256 := by
    rw [BitVec.extractLsb'_toNat, Nat.shiftRight_eq_div_pow, Nat.mod_eq_of_lt (by omega)]
  have hgreen : (c.extractLsb' 4 4).toNat = c.toNat / 16 % 16 := by
    rw [BitVec.extractLsb'_toNat, Nat.shiftRight_eq_div_pow]
  have hblue : (c.extractLsb' 0 4).toNat = c.toNat % 16 := by
    rw [BitVec.extractLsb'_toNat, Nat.shiftRight_zero]
  rw [argb, BitVec.toNat_or, BitVec.toNat_or, BitVec.toNat_or, doubledNibble_toNat _ (by decide),
    doubledNibble_toNat _ (by decide), doubledNibble_toNat _ (by decide), hred, hgreen, hblue]
  simp only [BitVec.reduceToNat]
  rw [or_eq_add_of_dvd (i := 24) (lo := c.toNat / 256 * 1114112) (by omega) (by omega),
    or_eq_add_of_dvd (i := 16) (lo := c.toNat / 16 % 16 * 4352) (by omega) (by omega),
    or_eq_add_of_dvd (i := 8) (by omega) (by omega)]

/-! ### The window -/

theorem hdiwOpen_iff (s : State) : hdiwOpen s ↔ s.bpl.diwstrt.toNat % 256 ≤ s.beam.hpos.toNat
    ∧ s.beam.hpos.toNat < 256 + s.bpl.diwstop.toNat % 256 := by
  rw [hdiwOpen, diwHStart, diwHStop, lowByte_toNat, lowByte_toNat, Bool.and_eq_true, decide_eq_true_eq, decide_eq_true_eq]

/-! ### The layer in front -/

theorem spriteIds_getElem : ∀ n : Fin 8, spriteIds[n.val]'n.isLt = n := by
  decide

/-- The sprite in front is the lowest one that shows a value (R184). -/
theorem find_spriteIds {shows : Fin 8 → Bool} {n : Fin 8} (hn : shows n) (hlow : ∀ j : Fin 8, j < n → shows j = false) :
    spriteIds.find? shows = some n := by
  refine List.find?_eq_some_iff_getElem.2 ⟨hn, n.val, n.isLt, spriteIds_getElem n, fun j hj => ?_⟩
  have hj8 : j < 8 := hj.trans n.isLt
  exact (congrArg (fun i => !shows i) (spriteIds_getElem ⟨j, hj8⟩)).trans (congrArg not (hlow ⟨j, hj8⟩ hj))

theorem lowBits_toFin (x : BitVec 6) : (x.extractLsb' 0 5).toFin.val = x.toNat % 32 := by simp

theorem pixelColor_playfield (b : Bitplane) {sv : Vector (BitVec 2) 8} (h : ∀ n : Fin 8, sv[n] = 0) (pf : BitVec 6) :
    (pixelColor b sv pf).val = pf.toNat % 32 := by
  have hfind : spriteIds.find? (fun n => sv[n] != 0) = none := List.find?_eq_none.2 fun n _ => by simp only [h n]; decide
  rw [pixelColor, hfind]
  exact lowBits_toFin pf

theorem spriteInFront_iff (b : Bitplane) (n : Fin 8) : spriteInFront b n ↔ n.val / 2 < b.con2.toNat / 8 % 8 := by
  rw [spriteInFront, decide_eq_true_eq, BitVec.extractLsb'_toNat, Nat.shiftRight_eq_div_pow]

theorem pixelColor_sprite (b : Bitplane) {sv : Vector (BitVec 2) 8} {n : Fin 8} (hn : sv[n] ≠ 0)
    (hlow : ∀ j : Fin 8, j < n → sv[j] = 0) (pf : BitVec 6) :
    (pixelColor b sv pf).val = if pf = 0 ∨ n.val / 2 < b.con2.toNat / 8 % 8 then 16 + 4 * (n.val / 2) + sv[n].toNat
      else pf.toNat % 32 := by
  have hfind : spriteIds.find? (fun n => sv[n] != 0) = some n :=
    find_spriteIds (bne_iff_ne.2 hn) fun j hj => bne_eq_false_iff_eq.2 (hlow j hj)
  rw [pixelColor, hfind, ← lowBits_toFin]
  simp only [spriteInFront_iff]
  split <;> rfl

/-! ### The pixels of a tick -/

theorem pixelsFrom_length (sv : Vector (BitVec 2) 8) (s : State) (sub : Nat) (pf : List (BitVec 6)) :
    (pixelsFrom sv s sub pf).length = pf.length := by
  induction pf generalizing sub with
  | nil => rfl
  | cons x rest ih => simp [pixelsFrom, ih]

theorem pixelsFrom_getElem? (sv : Vector (BitVec 2) 8) (s : State) (sub i : Nat) (pf : List (BitVec 6)) :
    (pixelsFrom sv s sub pf)[i]? = pf[i]?.map fun x => ⟨s.beam.vpos, s.beam.hpos, sub + i, pixelArgb sv x s⟩ := by
  induction pf generalizing sub i with
  | nil => rfl
  | cons x rest ih =>
    cases i with
    | zero => rfl
    | succ i => simp [pixelsFrom, ih, Nat.add_assoc, Nat.add_comm 1 i]

/-- Settles O44: each pixel is `pixelArgb` of its index, and the colour it shows is that of the window, of the sprite in front
or of the playfield. -/
theorem pixelsTakeTheColourOfTheFrontLayer : Obligations.PixelsTakeTheColourOfTheFrontLayer := by
  unfold Obligations.PixelsTakeTheColourOfTheFrontLayer
  intro sv pf s v h inside rgb t
  have hinside : inside ↔ (vdiwOpen s && hdiwOpen s) := by
    rw [Bool.and_eq_true, vdiwOpen_iff, hdiwOpen_iff]
    exact and_assoc.symm
  refine ⟨rfl, pixelsFrom_length sv s 0 pf, fun sub x px hx hpx => ?_⟩
  have hmap := pixelsFrom_getElem? sv s 0 sub pf
  rw [hx, Nat.zero_add] at hmap
  obtain rfl := Option.some.inj (hpx.symm.trans hmap)
  have hcolor (hin : inside) : (pixelArgb sv x s).toNat = rgb (s.color.toList.getD (pixelColor s.bpl sv x).val 0) := by
    rw [pixelArgb, if_pos (hinside.1 hin), argb_toNat, toList_getD_eq_getElem]
  refine ⟨rfl, rfl, rfl, fun hout => ?_, fun hin hnone => ?_, fun hin n hn hlow => ?_⟩
  · show (pixelArgb sv x s).toNat = _
    rw [pixelArgb, if_neg (mt hinside.2 hout), argb_toNat]
  · rw [← pixelColor_playfield s.bpl hnone]
    exact hcolor hin
  · rw [← pixelColor_sprite s.bpl hn hlow]
    exact hcolor hin

end Sys2Proof.Machine
end

section
/-! Blitter registers and the start of a blit: what a write stores or refuses (R23, R203, R208, U3), and the size field and the
texture that a size write loads (R101, R218). -/

namespace Sys2Proof.Machine

/-! ### Writes under the busy flag -/

section
variable {s : State}

theorem writeBlitter_of_busy (h : s.blt.busy) (f : Blitter → Blitter) :
    writeBlitter f s = .refused .blitterRegisterBusy := if_pos h

theorem writeBlitter_of_not_busy (h : s.blt.busy = false) (f : Blitter → Blitter) :
    writeBlitter f s = .next (s.withBlt (f s.blt)) := if_neg (Bool.eq_false_iff.1 h)

theorem writeBltsize_of_stopped (h : s.blt.st = .stopped) (v : Word) :
    regWriteReg .bltsize v s = .next (s.withBlt (s.blt.startBlit s.cfg v)) := if_pos h

theorem writeBltsize_of_not_stopped (h : s.blt.st ≠ .stopped) (v : Word) :
    regWriteReg .bltsize v s = .refused .blitterRegisterBusy := if_neg h

end

/-- Settles O22: every register but the size register is written by `writeBlitter`, which tests the busy flag. -/
theorem blitterRegistersRefuseWritesWhileBusy : Obligations.BlitterRegistersRefuseWritesWhileBusy := by
  unfold Obligations.BlitterRegistersRefuseWritesWhileBusy
  intro v x s
  refine ⟨fun hst => writeBltsize_of_not_stopped hst v, fun hbusy r hr => ?_, fun hidle => ?_⟩
  · fin_cases hr <;> simp only [regWriteReg, writeBlitter_of_busy hbusy]
  · simp only [regWriteReg, writeBlitter_of_not_busy hidle]
    and_intros <;> rfl

/-! ### The size field and the texture -/

/-- A size field whose zero stands for its maximum (R101). -/
theorem zeroAsMax_toNat {n m : Nat} (h : n ≤ m) (x : BitVec n) (most : BitVec m) :
    (if x = 0 then most else x.setWidth m).toNat = if x.toNat = 0 then most.toNat else x.toNat := by
  rw [apply_ite BitVec.toNat, BitVec.toNat_setWidth_of_le h]
  exact if_congr BitVec.toNat_inj.symm rfl rfl

theorem sizeHeight_toNat (v : Word) : (sizeHeight v).toNat = if v.toNat / 64 = 0 then 1024 else v.toNat / 64 := by
  have hfield : (v.extractLsb' 6 10).toNat = v.toNat / 64 := by
    have hv := v.isLt
    rw [BitVec.extractLsb'_toNat, Nat.shiftRight_eq_div_pow, Nat.mod_eq_of_lt (by omega)]
  rw [sizeHeight, zeroAsMax_toNat (by decide), hfield]
  rfl

theorem sizeWidth_toNat (v : Word) : (sizeWidth v).toNat = if v.toNat % 64 = 0 then 64 else v.toNat % 64 := by
  rw [sizeWidth, zeroAsMax_toNat (by decide), BitVec.extractLsb'_toNat, Nat.shiftRight_zero]
  rfl

/-- The shift field of a control register: bits 15 .. 12. -/
theorem shiftField_toNat (x : Word) : (x.extractLsb' 12 4).toNat = x.toNat / 4096 := by
  have hx := x.isLt
  rw [BitVec.extractLsb'_toNat, Nat.shiftRight_eq_div_pow, Nat.mod_eq_of_lt (by omega)]

theorem rotr16_eq (x : Word) (n : BitVec 4) : rotr16 x n = x.rotateRight n.toNat := by
  rw [rotr16, BitVec.rotateRight_def, Nat.mod_eq_of_lt n.isLt]

/-- Settles O23: `startBlit` sets exactly these fields, with the size field and the texture as the lemmas above say. -/
theorem sizeWriteStartsAStoppedBlitter : Obligations.SizeWriteStartsAStoppedBlitter := by
  unfold Obligations.SizeWriteStartsAStoppedBlitter
  intro v s hst
  have htexture : (s.blt.startBlit s.cfg v).bhold = if s.blt.con1.getLsbD 0 then
      s.blt.bdat.rotateRight (s.blt.con1.toNat / 4096) else s.blt.bhold := by
    rw [← shiftField_toNat, ← bltBsh, ← rotr16_eq]
    rfl
  exact ⟨s.blt.startBlit s.cfg v, writeBltsize_of_stopped hst v, sizeHeight_toNat v, rfl, sizeWidth_toNat v, rfl, htexture,
    rfl⟩

end Sys2Proof.Machine
end

section
/-! The minterm and the fill bit by bit (R100, R210, R213). -/

namespace Sys2Proof.Machine

/-! ### The minterm -/

theorem getLsbD_mintermTerm (on : Bool) (t : Word) (i : Nat) : (mintermTerm on t).getLsbD i = (on && t.getLsbD i) := by
  cases on
  · exact BitVec.getLsbD_zero
  · rfl

/-- Of the eight product terms, the one that is 1 for the operands' bits decides the bit (R210). -/
theorem getLsbD_minterm (lf : Byte) (a b c : Word) (i : Fin 16) : (minterm lf a b c).getLsbD i
    = lf.getLsbD (4 * (a.getLsbD i).toNat + 2 * (b.getLsbD i).toNat + (c.getLsbD i).toNat) := by
  simp only [minterm, BitVec.getLsbD_or, getLsbD_mintermTerm, BitVec.getLsbD_and, BitVec.getLsbD_not, i.isLt, decide_true,
    Bool.true_and]
  cases a.getLsbD i <;> cases b.getLsbD i <;> cases c.getLsbD i <;> simp

/-! ### Fill -/

/-- The fill carry before bit `i`: toggled by every bit below it that is 1 (R213). -/
def carryBefore (carry : Bool) (d : Word) (i : Nat) : Bool := (List.range i).foldl (fun x j => x != d.getLsbD j) carry

theorem carryBefore_succ (carry : Bool) (d : Word) (i : Nat) :
    carryBefore carry d (i + 1) = (carryBefore carry d i != d.getLsbD i) := by
  simp [carryBefore, List.range_succ]

/-- Bit `i` of a filled word, given the carry before it (R213). -/
def filledBit (excl carry : Bool) (d : Word) (i : Nat) : Bool :=
  if excl then d.getLsbD i != carryBefore carry d i else d.getLsbD i || carryBefore carry d i

/-- The first `n` bits of a fill: they are filled, the others are still 0, and the carry is the one before bit `n`. -/
theorem fill_firstBits (excl carry : Bool) (d : Word) (n : Nat) :
    ((List.range n).foldl (fillBit excl d) (0, carry)).2 = carryBefore carry d n
      ∧ ∀ i < 16, ((List.range n).foldl (fillBit excl d) (0, carry)).1.getLsbD i
        = (decide (i < n) && filledBit excl carry d i) := by
  induction n with
  | zero => exact ⟨rfl, fun i _ => by simp⟩
  | succ n ih =>
    obtain ⟨hcarry, hbits⟩ := ih
    rw [List.range_succ, List.foldl_append]
    generalize (List.range n).foldl (fillBit excl d) (0, carry) = acc at hcarry hbits
    refine ⟨?_, fun i hi => ?_⟩
    · rw [carryBefore_succ, ← hcarry]
      rfl
    · rw [List.foldl_cons, List.foldl_nil, fillBit, hcarry, getLsbD_setBit _ _ _ _ hi, hbits i hi]
      rcases eq_or_ne i n with rfl | hne
      · simp [filledBit]
      · simp [hne, Nat.le_iff_lt_or_eq]

/-- Settles O45: the minterm by its one product term that is 1, the fill by induction on the bits filled. -/
theorem mintermAndFillBitByBit : Obligations.MintermAndFillBitByBit := by
  unfold Obligations.MintermAndFillBitByBit
  refine ⟨getLsbD_minterm, fun excl carry d => ?_, by decide, by decide⟩
  obtain ⟨hcarry, hbits⟩ := fill_firstBits excl carry d 16
  exact ⟨fun i => (hbits i i.isLt).trans (by rw [decide_eq_true i.isLt]; rfl), hcarry⟩

end Sys2Proof.Machine
end

section
/-! The end of a word in an area mode: masks and the A shift, the minterm and the fill, and the row step (R208, R211, R214). -/

namespace Sys2Proof.Machine

/-- The barrel shifter moves the 32 bits of two successive words, the newer one below, or above when descending (R208). -/
theorem barrel_eq (new old : Word) (n : BitVec 4) (desc : Bool) : barrel new old n desc
    = BitVec.ofNat 16 (if desc then (65536 * new.toNat + old.toNat) * 2 ^ n.toNat / 65536
        else (65536 * old.toNat + new.toNat) / 2 ^ n.toNat) := by
  have hpair (x y : Word) : (x ++ y).toNat = 65536 * x.toNat + y.toNat := by
    rw [BitVec.toNat_append, ← Nat.shiftLeft_add_eq_or_of_lt y.isLt, Nat.shiftLeft_eq, Nat.mul_comm]
  apply BitVec.eq_of_toNat_eq
  cases desc
  · simp only [barrel, Bool.false_eq_true, if_false, BitVec.extractLsb'_toNat, BitVec.toNat_ushiftRight, hpair,
      Nat.shiftRight_eq_div_pow, BitVec.toNat_ofNat, Nat.pow_zero, Nat.div_one]
  · simp only [barrel, if_true, BitVec.extractLsb'_toNat, BitVec.toNat_shiftLeft, hpair, Nat.shiftRight_eq_div_pow,
      Nat.shiftLeft_eq, BitVec.toNat_ofNat]
    omega

/-! ### The word that ends -/

/-- The word is the last one of its row (R211). -/
def Blitter.lastWord (b : Blitter) : Bool := b.w.toNat == 1

/-- The row, or the dot, is the last one of its blit (R214, R219). -/
def Blitter.lastRow (b : Blitter) : Bool := b.h.toNat == 1

theorem Blitter.lastWord_iff (b : Blitter) : b.lastWord ↔ b.w = 1 := by
  rw [lastWord, beq_iff_eq, ← BitVec.toNat_inj]
  rfl

theorem Blitter.lastRow_iff (b : Blitter) : b.lastRow ↔ b.h = 1 := by
  rw [lastRow, beq_iff_eq, ← BitVec.toNat_inj]
  rfl

theorem Blitter.maskedA_eq (b : Blitter) : b.maskedA =
    if b.lastWord then (if b.w = b.width then b.adat &&& b.afwm else b.adat) &&& b.alwm
    else if b.w = b.width then b.adat &&& b.afwm else b.adat :=
  if_congr b.lastWord_iff.symm rfl rfl

theorem Blitter.computeWord_eq (m : BltMode) (b : Blitter) : b.computeWord m = { b with
    ahold := b.shiftedA m
    aold := b.maskedA
    fillCarry := (b.resultWord m).2
    zero := b.zero && (b.resultWord m).1 == 0
    ddat := if useD b.con0 then (b.resultWord m).1 else b.ddat
    dpending := useD b.con0 || b.dpending
    dlast := if useD b.con0 then b.lastWord else b.dlast } := by
  have hlast : decide (b.w = 1) = b.lastWord := Bool.eq_iff_iff.2 (decide_eq_true_iff.trans b.lastWord_iff.symm)
  unfold computeWord
  rw [hlast]
  cases useD b.con0 <;> rfl

/-! ### The row step -/

theorem rowAdvance_irq (m : BltMode) (s : State) :
    (rowAdvance m s).irq = if s.blt.lastWord && s.blt.lastRow then s.irq.raise 6 10 else s.irq := by
  simp only [rowAdvance, sub_eq_zero, ← Blitter.lastWord_iff, ← Blitter.lastRow_iff]
  cases s.blt.lastWord <;> cases s.blt.lastRow <;> rfl

theorem rowAdvance_blt (m : BltMode) (s : State) : (rowAdvance m s).blt = { s.blt with
    w := if s.blt.lastWord then s.blt.width else s.blt.w - 1
    h := if s.blt.lastWord then s.blt.h - 1 else s.blt.h
    fillCarry := if s.blt.lastWord then m.fci else s.blt.fillCarry
    st := if s.blt.lastWord && s.blt.lastRow then .final else s.blt.st
    busy := if s.blt.lastWord && s.blt.lastRow then false else s.blt.busy } := by
  simp only [rowAdvance, sub_eq_zero, ← Blitter.lastWord_iff, ← Blitter.lastRow_iff]
  cases s.blt.lastWord <;> cases s.blt.lastRow <;> rfl

/-- Settles O48: the word by `computeWord_eq` and the shifter, the words and rows left by the row step. -/
theorem completedWordIsMaskedShiftedCombinedAndFilled : Obligations.CompletedWordIsMaskedShiftedCombinedAndFilled := by
  unfold Obligations.CompletedWordIsMaskedShiftedCombinedAndFilled
  intro m s b last done a0 a sh ahold raw r t
  have ha : b.maskedA = a := b.maskedA_eq
  have hahold : b.shiftedA m = ahold := by
    rw [Blitter.shiftedA, barrel_eq, ha, bltAsh, shiftField_toNat]
  have hr : b.resultWord m = r := by
    rw [Blitter.resultWord, Blitter.rawWord, hahold]
    rfl
  refine ⟨completeWord_touches m s, ?_, ?_⟩
  · show (rowAdvance m (s.withBlt (b.computeWord m))).irq = _
    rw [rowAdvance_irq, State.withBlt_blt, Blitter.computeWord_eq]
    rfl
  · show (rowAdvance m (s.withBlt (b.computeWord m))).blt = _
    rw [rowAdvance_blt, State.withBlt_blt, Blitter.computeWord_eq, ha, hahold, hr]
    rfl

end Sys2Proof.Machine
end

section
/-! One turn of a running blitter, phase by phase (R206), and the slots of the area modes (R205, R207, R209, R212). -/

namespace Sys2Proof.Machine

/-! ### Turns under a pattern -/

section
variable {pat : List BltPhase} {needs : BltPhase → Bool} {slot : BltPhase → State → Result} {complete : State → Result}
  {s t : State} {ph : BltPhase}

theorem patternTurn_of_slot (hph : pat[s.blt.phase.toNat]? = some ph) (hneeds : needs ph) (hok : busOk s)
    (hslot : slot ph s = .next t) : patternTurn pat needs slot complete s = phaseAdvance pat.length complete t := by
  simp only [patternTurn, hph, hneeds, hok, hslot, if_true, andThen_next]

theorem patternTurn_of_no_need (hph : pat[s.blt.phase.toNat]? = some ph) (hneeds : needs ph = false) :
    patternTurn pat needs slot complete s = phaseAdvance pat.length complete s := by
  simp only [patternTurn, hph, hneeds, Bool.false_eq_true, if_false]

theorem patternTurn_of_refused (hph : pat[s.blt.phase.toNat]? = some ph) (hneeds : needs ph) (hok : busOk s = false) :
    patternTurn pat needs slot complete s = .next s :=
  patternTurn_refused ((phaseNeeds_some hph).trans hneeds) hok

end

/-! ### Area rows -/

theorem exec_areaRow {i : Instr} {m : BltMode} (h : areaModeOf i = some m) (s : State) : exec i s = areaTurn m s := by
  cases i with
  | bltArea | bltFillInclusive | bltFillExclusive =>
    cases h
    rfl
  | _ => cases h

/-- The sequencer of an area mode moved on, with the word completed at the end of the pattern (R206, R211). -/
theorem phaseAdvance_completeWord (n : Nat) (m : BltMode) (s : State) :
    phaseAdvance n (fun u => .next (completeWord m u)) s = .next (if s.blt.phase.toNat + 1 = n
      then completeWord m (s.withBlt { s.blt with phase := 0 }) else s.withBlt { s.blt with phase := s.blt.phase + 1 }) := by
  unfold phaseAdvance
  split <;> rfl

/-- Both sums of a channel's pointer inside the container (R209, R212, R80). -/
theorem withAreaStep_of_fits {b : Blitter} {x : BltChan} {desc rowEnd : Bool} {step rest : Int} (hstep : step = 2 * bltDir desc)
    (hrest : rest = if rowEnd then bltDir desc * (b.mod x).toInt else 0) (h2 : ptrFits (b.pt x) step)
    (hmod : ptrFits (b.pt x + BitVec.ofInt 32 step) rest) (k : Long → Result) :
    withAreaStep b x desc rowEnd k = k (b.pt x + BitVec.ofInt 32 step + BitVec.ofInt 32 rest) := by
  subst hstep hrest
  rw [withAreaStep, withPtrAdd_of_fits h2]
  cases rowEnd
  · simp
  · exact withPtrAdd_of_fits hmod k

section
variable {s : State} {step rest : Int}

theorem bltFetch_of_fits {m : BltMode} {x : BltChan} (hrange : dmaInRange s (s.blt.pt x)) (hstep : step = 2 * bltDir m.desc)
    (hrest : rest = if s.blt.lastWord then bltDir m.desc * (s.blt.mod x).toInt else 0) (h2 : ptrFits (s.blt.pt x) step)
    (hmod : ptrFits (s.blt.pt x + BitVec.ofInt 32 step) rest) :
    bltFetch m x s = .next (grant .blitter (s.blt.pt x) (Mem.readWord s.mem (dmaAddr s (s.blt.pt x)))
      (s.withBlt ((s.blt.setPt x (s.blt.pt x + BitVec.ofInt 32 step + BitVec.ofInt 32 rest)).takeFetched m x
        (Mem.readWord s.mem (dmaAddr s (s.blt.pt x)))))) := by
  have hlast : (s.blt.w == 1) = s.blt.lastWord := Bool.eq_iff_iff.2 (beq_iff_eq.trans s.blt.lastWord_iff.symm)
  rw [bltFetch, withMemRead_of_inRange hrange, hlast, withAreaStep_of_fits hstep hrest h2 hmod]

theorem bltWriteD_of_fits {desc : Bool} (hrange : dmaInRange s s.blt.dpt) (hstep : step = 2 * bltDir desc)
    (hrest : rest = if s.blt.dlast then bltDir desc * s.blt.dmod.toInt else 0) (h2 : ptrFits s.blt.dpt step)
    (hmod : ptrFits (s.blt.dpt + BitVec.ofInt 32 step) rest) :
    bltWriteD desc s = .next (grant .blitter s.blt.dpt s.blt.ddat
      ((s.withMem (Mem.writeWord s.mem (dmaAddr s s.blt.dpt) s.blt.ddat)).withBlt { s.blt with
        dpt := s.blt.dpt + BitVec.ofInt 32 step + BitVec.ofInt 32 rest, dpending := false })) := by
  rw [bltWriteD, memWrite_of_inRange hrange, andThen_next]
  exact withAreaStep_of_fits (x := .d) hstep hrest h2 hmod _

end

/-- The phase in which a channel has its slot (R102). -/
def channelPhase : BltChan → BltPhase
  | .a => .a
  | .b => .b
  | .c => .c
  | .d => .d

/-- A source channel's phase needs the bus and fetches (R206, R207). -/
theorem areaPhase_fetch {x : BltChan} (hx : x ≠ .d) (m : BltMode) (s : State) :
    areaNeeds (channelPhase x) s.blt ∧ areaSlot m (channelPhase x) s = bltFetch m x s := by
  cases x with
  | a | b | c => exact ⟨rfl, rfl⟩
  | d => exact absurd rfl hx

/-- Settles O46: the phase's slot is `bltFetch`, and the sequencer moves on from what it leaves. -/
theorem areaRowFetchesItsChannel : Obligations.AreaRowFetchesItsChannel := by
  unfold Obligations.AreaRowFetchesItsChannel
  intro i m x s hi hx b ph w dir step rest p f hph
  have hphase : (areaPattern s m)[b.phase.toNat]? = some (channelPhase x) := hph.trans (by cases x <;> rfl)
  obtain ⟨hneeds, hslot⟩ := areaPhase_fetch hx m s
  rw [exec_areaRow hi, areaTurn]
  refine ⟨patternTurn_of_refused hphase hneeds, fun hok hrange h2 hmod => ?_⟩
  have hrest : rest = if b.lastWord then bltDir m.desc * (b.mod x).toInt else 0 := if_congr beq_iff_eq.symm rfl rfl
  have hfetch := hslot.trans (bltFetch_of_fits hrange rfl hrest h2 hmod)
  rw [patternTurn_of_slot hphase hneeds hok hfetch, phaseAdvance_completeWord]
  cases x with
  | a | b | c => rfl
  | d => exact absurd rfl hx

/-- Settles O47: a pending word is written by `bltWriteD`; without one, and at an idle phase, no bus is needed. -/
theorem areaRowWritesThePendingWordOrIdles : Obligations.AreaRowWritesThePendingWordOrIdles := by
  unfold Obligations.AreaRowWritesThePendingWordOrIdles
  intro i m s hi b n a dir step rest p
  rw [exec_areaRow hi, areaTurn]
  refine ⟨fun hph hpending => ⟨patternTurn_of_refused hph hpending, fun hok hrange h2 hmod hwf => ?_⟩, fun hidle => ?_⟩
  · refine ⟨Mem.writeWord s.mem a b.ddat, Mem.read_writeWord_high _ _ _ hwf, Mem.read_writeWord_low _ _ _ hwf,
      fun j => Mem.read_writeWord_ne _ _ j _, ?_⟩
    have hwrite : areaSlot m .d s = _ := bltWriteD_of_fits hrange rfl rfl h2 hmod
    rw [patternTurn_of_slot hph hpending hok hwrite, phaseAdvance_completeWord]
    rfl
  · obtain ⟨ph, hph, hneeds⟩ : ∃ ph, (areaPattern s m)[b.phase.toNat]? = some ph ∧ areaNeeds ph b = false := by
      rcases hidle with hph | ⟨hph, hnone⟩
      · exact ⟨.idle, hph, rfl⟩
      · exact ⟨.d, hph, hnone⟩
    exact (patternTurn_of_no_need hph hneeds).trans (phaseAdvance_completeWord n m s)

end Sys2Proof.Machine
end

section
/-! One step of a line: the dot moves by its octant, and the error, the texture and the dots left follow (R215, R218, R219,
R221). -/

namespace Sys2Proof.Machine

/-! ### The position of the dot -/

theorem withAsh_toNat (con0 : Word) (a : BitVec 4) : (withAsh con0 a).toNat = 4096 * a.toNat + con0.toNat % 4096 := by
  have hlow : (con0.extractLsb' 0 12).toNat = con0.toNat % 4096 := by
    rw [BitVec.extractLsb'_toNat, Nat.shiftRight_zero]
  rw [withAsh, BitVec.toNat_append, ← Nat.shiftLeft_add_eq_or_of_lt (BitVec.isLt _), Nat.shiftLeft_eq, hlow, Nat.mul_comm]

/-- The position of the dot as one number: a word of memory is sixteen dots wide, and a pointer counts bytes (R219). -/
def Blitter.dotPos (b : Blitter) : Int := 8 * (b.cpt.toNat : Int) + (b.con0.toNat / 4096 : Nat)

/-- From `b` to `c` the dot has moved by `dx` dots and `dy` lines; the other bits of `bltcon0` are as before, and a new line has
no dot yet. -/
structure DotMoved (dx dy : Int) (b c : Blitter) : Prop where
  pos : c.dotPos = b.dotPos + dx + 8 * dy * b.cmod.toInt
  con0 : c.con0.toNat % 4096 = b.con0.toNat % 4096
  frame : ∃ x p, c = { b with con0 := x, cpt := p, dotThisLine := b.dotThisLine && dy == 0 }

theorem DotMoved.refl (b : Blitter) : DotMoved 0 0 b b where
  pos := by simp
  con0 := rfl
  frame := ⟨b.con0, b.cpt, by simp⟩

/-- Two moves are one; only one of them may be across lines. -/
theorem DotMoved.trans {dx dy dx' dy' : Int} {b c d : Blitter} (h : DotMoved dx dy b c) (k : DotMoved dx' dy' c d)
    (hy : dy = 0 ∨ dy' = 0) : DotMoved (dx + dx') (dy + dy') b d := by
  obtain ⟨hpos, hcon0, x, p, rfl⟩ := h
  obtain ⟨kpos, kcon0, y, q, rfl⟩ := k
  refine ⟨?_, kcon0.trans hcon0, y, q, ?_⟩
  · rw [kpos, hpos]
    ring
  · rcases hy with rfl | rfl <;> simp

/-- The dot's pointer is at least `n` bytes away from both ends of its container. -/
def DotFits (n : Nat) (b : Blitter) : Prop := n ≤ b.cpt.toNat ∧ b.cpt.toNat + n < 4294967296

/-! ### Steps along one axis -/

theorem DotFits.ptrFits {n : Nat} {b : Blitter} (h : DotFits n b) {k : Int} (hlo : -n ≤ k) (hhi : k ≤ n) :
    ptrFits b.cpt k := by
  obtain ⟨hptr, hptr'⟩ := h
  exact ⟨by omega, by omega⟩

/-- A step to one side, as both directions make it: past the end of a word the pointer goes on to the next one (R219). -/
theorem sideStep_moves {b : Blitter} (h : DotFits 2 b) {wraps : Prop} [Decidable wraps] {dx : Int} {a : BitVec 4}
    (hdx : dx = 1 ∨ dx = -1) (ha : (a.toNat : Int) + (if wraps then 16 * dx else 0) = (bltAsh b.con0).toNat + dx) :
    ∃ c, (∀ k : Blitter → Result, (if wraps then withPtrAdd b.cpt (2 * dx) fun p =>
        k { b with con0 := withAsh b.con0 a, cpt := p } else k { b with con0 := withAsh b.con0 a }) = k c)
      ∧ DotMoved dx 0 b c := by
  have hfits : ptrFits b.cpt (2 * dx) := by
    rcases hdx with rfl | rfl <;> exact h.ptrFits (by decide) (by decide)
  have hash : (bltAsh b.con0).toNat = b.con0.toNat / 4096 := shiftField_toNat b.con0
  have hcon0 := withAsh_toNat b.con0 a
  have hmoved (p : Long) (hp : 8 * (p.toNat : Int) + a.toNat = 8 * b.cpt.toNat + (bltAsh b.con0).toNat + dx) :
      DotMoved dx 0 b { b with con0 := withAsh b.con0 a, cpt := p } := by
    refine ⟨?_, ?_, withAsh b.con0 a, p, by simp⟩
    · simp only [Blitter.dotPos]
      omega
    · simp only
      omega
  by_cases hw : wraps
  · rw [if_pos hw] at ha
    refine ⟨_, fun k => (if_pos hw).trans (withPtrAdd_of_fits hfits _), hmoved _ ?_⟩
    rw [toNat_ptrSum hfits]
    omega
  · rw [if_neg hw] at ha
    exact ⟨_, fun k => if_neg hw, hmoved b.cpt (by omega)⟩

/-- A step to the right wraps from the last position of a word (R219). -/
theorem lineStepX_right (b : Blitter) (k : Blitter → Result) :
    lineStepX false b k = if bltAsh b.con0 + 1 = 0 then withPtrAdd b.cpt (2 * 1) fun p =>
      k { b with con0 := withAsh b.con0 (bltAsh b.con0 + 1), cpt := p }
      else k { b with con0 := withAsh b.con0 (bltAsh b.con0 + 1) } := rfl

/-- A step to the left wraps from the first position of a word (R219). -/
theorem lineStepX_left (b : Blitter) (k : Blitter → Result) :
    lineStepX true b k = if bltAsh b.con0 = 0 then withPtrAdd b.cpt (2 * -1) fun p =>
      k { b with con0 := withAsh b.con0 (bltAsh b.con0 - 1), cpt := p }
      else k { b with con0 := withAsh b.con0 (bltAsh b.con0 - 1) } := rfl

theorem lineStepX_moves (neg : Bool) {b : Blitter} (h : DotFits 2 b) :
    ∃ c, (∀ k, lineStepX neg b k = k c) ∧ DotMoved (if neg then -1 else 1) 0 b c := by
  cases neg with
  | false =>
    simp only [lineStepX_right]
    refine sideStep_moves h (.inl rfl) ?_
    split <;> bv_omega
  | true =>
    simp only [lineStepX_left]
    refine sideStep_moves h (.inr rfl) ?_
    split <;> bv_omega

theorem lineStepY_eq (neg : Bool) (b : Blitter) (k : Blitter → Result) :
    lineStepY neg b k = withPtrAdd b.cpt ((if neg then -1 else 1) * b.cmod.toInt) fun p =>
      k { b with cpt := p, dotThisLine := false } := by
  cases neg
  · simp only [Bool.false_eq_true, if_false, one_mul]
    rfl
  · simp only [if_true, neg_one_mul]
    rfl

/-- A step up or down moves the pointer by one pitch (R219). -/
theorem lineStepY_moves (neg : Bool) {b : Blitter} (h : DotFits 32768 b) :
    ∃ c, (∀ k, lineStepY neg b k = k c) ∧ DotMoved 0 (if neg then -1 else 1) b c := by
  have hlo := BitVec.le_toInt b.cmod
  have hhi := BitVec.toInt_lt (x := b.cmod)
  simp only [lineStepY_eq]
  generalize hdy : (if neg then -1 else 1 : Int) = dy
  have hunit : dy = 1 ∨ dy = -1 := by cases neg <;> simp_all
  have hfits : ptrFits b.cpt (dy * b.cmod.toInt) := by
    rcases hunit with rfl | rfl <;> exact h.ptrFits (by omega) (by omega)
  refine ⟨_, fun k => withPtrAdd_of_fits hfits _, ?_, rfl, b.con0, b.cpt + BitVec.ofInt 32 (dy * b.cmod.toInt), ?_⟩
  · simp only [Blitter.dotPos, toNat_ptrSum hfits]
    ring
  · rcases hunit with rfl | rfl <;> simp

/-! ### The step of a dot -/

/-- The step across the line's main direction, which a non-negative error adds (R219). -/
def LineMode.minor (m : LineMode) (sign : Bool) : Int := if sign then 0 else if m.sul then -1 else 1

/-- The step along the line's main direction (R219). -/
def LineMode.major (m : LineMode) : Int := if m.aul then -1 else 1

/-- How far from the ends of its container the pointer has to be for a step up or down, or to one side. -/
def stepMargin (upDown : Bool) : Nat := if upDown then 32768 else 2

theorem lineMinorStep_moves (m : LineMode) {b : Blitter} (h : DotFits (stepMargin m.sud) b) :
    ∃ c, (∀ k, lineMinorStep m b k = k c)
      ∧ DotMoved (if m.sud then 0 else m.minor b.sign) (if m.sud then m.minor b.sign else 0) b c := by
  unfold lineMinorStep LineMode.minor
  cases b.sign
  · cases hsud : m.sud <;> rw [hsud] at h
    · exact lineStepX_moves m.sul h
    · exact lineStepY_moves m.sul h
  · exact ⟨b, fun _ => rfl, by simpa using DotMoved.refl b⟩

theorem lineMajorStep_moves (m : LineMode) {b : Blitter} (h : DotFits (stepMargin (!m.sud)) b) :
    ∃ c, (∀ k, lineMajorStep m b k = k c)
      ∧ DotMoved (if m.sud then m.major else 0) (if m.sud then 0 else m.major) b c := by
  unfold lineMajorStep LineMode.major
  cases hsud : m.sud <;> rw [hsud] at h
  · exact lineStepY_moves m.aul h
  · exact lineStepX_moves m.aul h

theorem Blitter.errorStep_eq (b : Blitter) : b.errorStep = { b with apt := if b.con0.getLsbD 11 then
    b.apt + (if b.sign then b.bmod.signExtend 32 else b.amod.signExtend 32) else b.apt } := by
  unfold errorStep useA
  split <;> rfl

theorem LineMode.minor_unit (m : LineMode) (sign : Bool) : m.minor sign = 0 ∨ m.minor sign = 1 ∨ m.minor sign = -1 := by
  unfold LineMode.minor
  cases sign <;> cases m.sul <;> decide

/-- After the first step a pointer well inside its container is still as far from its ends as the second step needs. -/
theorem DotMoved.dotFits {dx dy : Int} {b c : Blitter} (h : DotMoved dx dy b c) (hdx : dx = 0 ∨ dx = 1 ∨ dx = -1)
    (hdy : dy = 0 ∨ dy = 1 ∨ dy = -1) {upDown : Bool} (hstep : dy = 0 ∨ upDown = false) (hlo : 65536 ≤ b.cpt.toNat)
    (hhi : b.cpt.toNat < 4294967296 - 65536) : DotFits (stepMargin upDown) c := by
  have hpos := h.pos
  have hmod := BitVec.le_toInt b.cmod
  have hmod' := BitVec.toInt_lt (x := b.cmod)
  have hb := b.con0.isLt
  have hc := c.con0.isLt
  simp only [Blitter.dotPos] at hpos
  rcases hstep with rfl | rfl
  · have hmargin : stepMargin upDown ≤ 32768 := by cases upDown <;> decide
    exact ⟨by omega, by omega⟩
  · have hmargin : stepMargin false = 2 := rfl
    rcases hdy with rfl | rfl | rfl <;> exact ⟨by omega, by omega⟩

/-- The dot moves one step along the main direction, and one across it unless the error is negative (R219). -/
theorem lineSteps_move (m : LineMode) {b : Blitter} (hlo : 65536 ≤ b.cpt.toNat) (hhi : b.cpt.toNat < 4294967296 - 65536) :
    ∃ c, (∀ k, lineMinorStep m b (fun d => lineMajorStep m d k) = k c)
      ∧ DotMoved (if m.sud then m.major else m.minor b.sign) (if m.sud then m.minor b.sign else m.major) b c := by
  obtain ⟨d, hd, hminor⟩ := lineMinorStep_moves m (b := b) (by unfold stepMargin; split <;> exact ⟨by omega, by omega⟩)
  have hunit := m.minor_unit b.sign
  have hfits : DotFits (stepMargin (!m.sud)) d := by
    refine hminor.dotFits ?_ ?_ ?_ hlo hhi <;> cases m.sud <;> simp [hunit]
  obtain ⟨c, hc, hmajor⟩ := lineMajorStep_moves m hfits
  refine ⟨c, fun k => (hd _).trans (hc k), ?_⟩
  cases hsud : m.sud <;> simpa [hsud] using hminor.trans hmajor (by simp [hsud])

/-! ### The end of a dot -/

theorem lineFinish_irq (s : State) (b : Blitter) :
    (lineFinish s b).irq = if b.lastRow then s.irq.raise 6 10 else s.irq := by
  simp only [lineFinish, sub_eq_zero, ← Blitter.lastRow_iff]
  cases b.lastRow <;> rfl

theorem lineFinish_blt (s : State) (b : Blitter) : (lineFinish s b).blt = { b with
    sign := b.apt.getLsbD 15
    bhold := b.bhold.rotateLeft 1
    dpt := b.cpt
    h := b.h - 1
    st := if b.lastRow then .final else b.st
    busy := if b.lastRow then false else b.busy } := by
  simp only [lineFinish, sub_eq_zero, ← Blitter.lastRow_iff]
  cases b.lastRow <;> rfl

/-- Settles O50: the two steps move the dot as `lineSteps_move` says, and `lineFinish` does the rest. -/
theorem lineStepMovesTheDotByItsOctant : Obligations.LineStepMovesTheDotByItsOctant := by
  unfold Obligations.LineStepMovesTheDotByItsOctant
  intro m s hlo hhi b dx dy done apt
  obtain ⟨c, hc, hmoved⟩ := lineSteps_move m (b := { b with apt := apt }) hlo hhi
  have hdot : completeDot m s = .next (lineFinish s c) := by
    rw [completeDot, Blitter.errorStep_eq]
    exact hc _
  obtain ⟨hpos, hcon0, x, p, rfl⟩ := hmoved
  refine ⟨_, hdot, lineFinish_touches s _, ?_, ?_, lineFinish_irq s _, ?_⟩
  · rw [lineFinish_blt]
    exact hpos
  · rw [lineFinish_blt]
    exact hcon0
  · rw [lineFinish_blt]
    rfl

end Sys2Proof.Machine
end

section
/-! The rows of line mode: the slots of its phases, and a turn phase by phase (R205, R206, R207, R216, R217, R218). -/

namespace Sys2Proof.Machine

theorem exec_lineRow {i : Instr} {m : LineMode} (h : lineModeOf i = some m) (s : State) : exec i s = lineTurn m s := by
  cases i with
  | bltLine =>
    cases h
    rfl
  | _ => cases h

/-! ### Slots -/

theorem lineFetchC_of_inRange {s : State} (h : dmaInRange s s.blt.cpt) :
    lineFetchC s = .next (grant .blitter s.blt.cpt (Mem.readWord s.mem (dmaAddr s s.blt.cpt)) (s.withBlt { s.blt with
      cdat := if useC s.blt.con0 then Mem.readWord s.mem (dmaAddr s s.blt.cpt) else s.blt.cdat })) := by
  rw [lineFetchC, withMemRead_of_inRange h]
  cases useC s.blt.con0 <;> rfl

theorem lineSlot_source {ph : BltPhase} (hidle : ph ≠ .idle) (hd : ph ≠ .d) (m : LineMode) (s : State) :
    lineSlot m ph s = lineFetchC s := by
  cases ph with
  | a | b | c => rfl
  | d => exact absurd rfl hd
  | idle => exact absurd rfl hidle

theorem lineNeeds_of_ne_idle {ph : BltPhase} (h : ph ≠ .idle) : lineNeeds ph := bne_iff_ne.2 h

/-- Chip memory after the D phase of a dot (R217). -/
def dotMem (m : LineMode) (s : State) : Memory :=
  if useD s.blt.con0 then Mem.writeWord s.mem (dmaAddr s s.blt.dpt) (s.blt.dotWord m) else s.mem

theorem dotMem_of_useD {s : State} (h : useD s.blt.con0) (m : LineMode) :
    dotMem m s = Mem.writeWord s.mem (dmaAddr s s.blt.dpt) (s.blt.dotWord m) := if_pos h

theorem dotMem_of_not_useD {s : State} (h : useD s.blt.con0 = false) (m : LineMode) : dotMem m s = s.mem :=
  if_neg (Bool.eq_false_iff.1 h)

theorem lineWriteD_of_inRange {s : State} (m : LineMode) (h : useD s.blt.con0 → dmaInRange s s.blt.dpt) :
    lineWriteD m s = .next (grant .blitter s.blt.dpt (s.blt.dotWord m) ((s.withMem (dotMem m s)).withBlt { s.blt with
      dotThisLine := true, zero := s.blt.zero && s.blt.dotWord m == 0, ddat := s.blt.dotWord m })) := by
  unfold lineWriteD
  cases hd : useD s.blt.con0
  · rw [dotMem_of_not_useD hd]
    rfl
  · rw [dotMem_of_useD hd]
    simp only [if_true, memWrite_of_inRange (h hd), andThen_next]
    rfl

theorem Blitter.dotWord_eq (m : LineMode) (b : Blitter) : b.dotWord m = minterm (b.con0.extractLsb' 0 8)
    (if m.sing ∧ b.dotThisLine then 0 else BitVec.ofNat 16 ((b.adat &&& b.afwm).toNat / 2 ^ (b.con0.toNat / 4096)))
    (if b.bhold.getLsbD 0 then 0xFFFF else 0) b.cdat := by
  have hshift : (b.adat &&& b.afwm) >>> (bltAsh b.con0).toNat
      = BitVec.ofNat 16 ((b.adat &&& b.afwm).toNat / 2 ^ (b.con0.toNat / 4096)) := by
    rw [← shiftField_toNat, ← Nat.shiftRight_eq_div_pow, ← BitVec.toNat_ushiftRight, BitVec.ofNat_toNat, BitVec.setWidth_eq]
    rfl
  simp only [dotWord, dotA, hshift, Bool.and_eq_true]
  rfl

/-! ### Turns -/

/-- With the dot's pointer well inside its container the sequencer always moves on (R206, R219). -/
theorem phaseAdvance_completeDot (n : Nat) (m : LineMode) {s : State} (hlo : 65536 ≤ s.blt.cpt.toNat)
    (hhi : s.blt.cpt.toNat < 4294967296 - 65536) : ∃ t, phaseAdvance n (completeDot m) s = .next t := by
  unfold phaseAdvance
  split
  · obtain ⟨t, ht, -⟩ := lineStepMovesTheDotByItsOctant m (s.withBlt { s.blt with phase := 0 }) hlo hhi
    exact ⟨t, ht⟩
  · exact ⟨_, rfl⟩

/-- Settles O49: each phase's slot goes on to `phaseAdvance`, which moves the sequencer on or completes the dot. -/
theorem lineRowFetchesAndDrawsTheDot : Obligations.LineRowFetchesAndDrawsTheDot := by
  unfold Obligations.LineRowFetchesAndDrawsTheDot
  intro i m s hi b pat go w a dot d
  have hword : b.dotWord m = d := b.dotWord_eq m
  have hidle (hph : pat[b.phase.toNat]? = some .idle) : exec i s = phaseAdvance pat.length (completeDot m) s :=
    (exec_lineRow hi s).trans (patternTurn_of_no_need hph rfl)
  have hturn {ph : BltPhase} {t : State} (hph : pat[b.phase.toNat]? = some ph) (hne : ph ≠ .idle) (hok : busOk s)
      (hslot : lineSlot m ph s = .next t) : exec i s = phaseAdvance pat.length (completeDot m) t :=
    (exec_lineRow hi s).trans (patternTurn_of_slot hph (lineNeeds_of_ne_idle hne) hok hslot)
  have hsource {ph : BltPhase} (hph : pat[b.phase.toNat]? = some ph) (hne : ph ≠ .idle) (hd : ph ≠ .d) (hok : busOk s)
      (hrange : dmaInRange s b.cpt) :=
    hturn hph hne hok ((lineSlot_source hne hd m s).trans (lineFetchC_of_inRange hrange))
  have hdraw (hph : pat[b.phase.toNat]? = some .d) (hok : busOk s) (hrange : useD b.con0 → dmaInRange s b.dpt) :=
    hturn hph (by decide) hok (lineWriteD_of_inRange m hrange)
  refine ⟨fun ph hph hne hok => ?_, hidle, fun ph hph hne hd hok hrange => ?_, fun hph hok hrange hwf => ?_,
    fun ph hph hok hc hd hlo hhi => ?_⟩
  · rw [exec_lineRow hi]
    exact patternTurn_of_refused hph (lineNeeds_of_ne_idle hne) hok
  · exact hsource hph hne hd hok hrange
  · refine ⟨dotMem m s, fun hd => ?_, fun hd => dotMem_of_not_useD hd m, ?_⟩
    · rw [dotMem_of_useD hd, ← hword]
      exact ⟨Mem.readWord_writeWord _ _ _ hwf, fun j => Mem.read_writeWord_ne _ _ j _⟩
    · rw [← hword]
      exact hdraw hph hok hrange
  · rcases eq_or_ne ph .idle with rfl | hne
    · rw [hidle hph]
      exact phaseAdvance_completeDot _ m hlo hhi
    · rcases eq_or_ne ph .d with rfl | hnd
      · rw [hdraw hph hok fun _ => hd]
        exact phaseAdvance_completeDot _ m hlo hhi
      · rw [hsource hph hne hnd hok hc]
        exact phaseAdvance_completeDot _ m hlo hhi

end Sys2Proof.Machine
end

section
/-! The start of a blit and its end: the start count in housekeeping (R204), and the flush of the last word (R222). -/

namespace Sys2Proof.Machine

/-! ### The start count -/

theorem blitterStartTick_blt (s : State) : (blitterStartTick s).blt = if s.blt.st = .starting then
    (if s.blt.startCount = 0 then { s.blt with st := .running } else { s.blt with startCount := s.blt.startCount - 1 })
    else s.blt := by
  unfold blitterStartTick
  split
  · split <;> rfl
  · rfl

theorem housekeeping_blt (s : State) : (housekeeping s).blt = if s.blt.st = .starting then
    (if s.blt.startCount = 0 then { s.blt with st := .running } else { s.blt with startCount := s.blt.startCount - 1 })
    else s.blt := by
  have hsame : (audioPeriodTicks (ddfTrack s)).blt = s.blt := by
    rw [audioPeriodTicks_touches, ddfTrack_touches]
    rfl
  rw [housekeeping, blitterStartTick_blt, hsame]

/-- A starting blitter has still as many housekeepings to wait as its start count says (R204). -/
theorem housekeeping_iterate_starting {u : State} (h : u.blt.st = .starting) : ∀ j ≤ u.blt.startCount.toNat,
    (housekeeping^[j] u).blt.st = .starting ∧ (housekeeping^[j] u).blt.startCount.toNat + j = u.blt.startCount.toNat := by
  intro j
  induction j with
  | zero => exact fun _ => ⟨h, rfl⟩
  | succ j ih =>
    intro hj
    obtain ⟨hst, hcount⟩ := ih (Nat.le_of_succ_le hj)
    have hne : (housekeeping^[j] u).blt.startCount ≠ 0 := fun h0 => by simp [h0] at hcount; omega
    rw [Function.iterate_succ_apply', housekeeping_blt, if_pos hst, if_neg hne]
    refine ⟨hst, ?_⟩
    bv_omega

theorem housekeeping_iterate_running {u : State} (h : u.blt.st = .starting) :
    (housekeeping^[u.blt.startCount.toNat + 1] u).blt.st = .running := by
  obtain ⟨hst, hcount⟩ := housekeeping_iterate_starting h _ le_rfl
  have h0 : (housekeeping^[u.blt.startCount.toNat] u).blt.startCount = 0 := by bv_omega
  rw [Function.iterate_succ_apply', housekeeping_blt, if_pos hst, if_pos h0]

/-! ### The flush -/

theorem blitterTurn_waiting {s : State} (h : s.blt.st = .starting ∨ s.blt.st = .stopped) : blitterTurn s = .next s := by
  unfold blitterTurn
  rcases h with h | h <;> simp [h]

theorem blitterTurn_final {s : State} (hon : s.dmaOn dmaBlt) (hfin : s.blt.st = .final) : blitterTurn s = finalTurn s := by
  simp only [blitterTurn, hon, if_true, hfin]

/-- Settles O51: the start count by induction over the housekeepings, the flush by `bltWriteD`. -/
theorem blitterStartDelayAndFinalFlush : Obligations.BlitterStartDelayAndFinalFlush := by
  unfold Obligations.BlitterStartDelayAndFinalFlush
  intro s
  refine ⟨housekeeping_blt s, blitterTurn_waiting, fun v u hst hu j => ?_, rfl, fun hon hfin => ?_⟩
  · rw [writeBltsize_of_stopped hst] at hu
    obtain rfl := Host.Outcome.next.inj hu
    have hstart : (s.withBlt (s.blt.startBlit s.cfg v)).blt.st = .starting := rfl
    refine ⟨fun hj => (housekeeping_iterate_starting hstart j hj).1, fun hj => ?_⟩
    rw [hj]
    exact housekeeping_iterate_running hstart
  · intro b a dir step rest
    have hflush := blitterTurn_final hon hfin
    refine ⟨fun hnone => ?_, fun hpending hok => ?_, fun hpending hok hrange h2 hmod hwf => ?_⟩
    · rw [hflush, finalTurn, if_neg (Bool.eq_false_iff.1 hnone)]
      rfl
    · exact blitterTurn_refused ((bltNeedsBus_final hfin).trans hpending) hok
    · refine ⟨Mem.writeWord s.mem a b.ddat, Mem.readWord_writeWord _ _ _ hwf, fun j => Mem.read_writeWord_ne _ _ j _, ?_⟩
      have hwrite : bltWriteD (bltDesc s.blt.con1) s = _ := bltWriteD_of_fits hrange rfl rfl h2 hmod
      rw [hflush, finalTurn, if_pos hpending, if_pos hok, hwrite]
      rfl

end Sys2Proof.Machine
end

section
/-! The copper's instructions: MOVE behind the protection and the skip mark (R246, R247), and WAIT and SKIP state by state with
the comparison of the beam (R248 to R251, R254). -/

namespace Sys2Proof.Machine

/-! ### MOVE -/

theorem regOffset_of_moveOffsetOk {off : Word} (h : moveOffsetOk off) : regOffset off = off := of_decide_eq_true h

/-- A MOVE below the threshold is the copper's abort (R247, R370). -/
theorem execMove_protected {off : Word} {s : State} (data : Word) (h : regOffset off < copperThreshold s) :
    execMove off data s = .next (s.withCop { s.cop with st := .halted, skipNext := false }) := if_pos h

theorem execMove_skipped {off : Word} {s : State} (data : Word) (hskip : s.cop.skipNext)
    (hsafe : copperThreshold s ≤ regOffset off) :
    execMove off data s = .next (s.withCop { s.cop with skipNext := false }) := by
  have hlt : ¬ regOffset off < copperThreshold s := BitVec.not_lt.2 hsafe
  rw [execMove, if_neg hlt, if_pos hskip]

/-- `COPCON` lies below both default thresholds. -/
theorem copcon_protected {s : State} (h : s.cfg = Config.default) : regOffset 0x02E < copperThreshold s := by
  rw [copperThreshold, h]
  cases copperDanger s <;> decide

/-- Settles O10: the two tests of a MOVE in their order, and what a field start and a jump strobe make of a halted copper. -/
theorem moveIsProtectedThenSkippedThenWritten : Obligations.MoveIsProtectedThenSkippedThenWritten := by
  unfold Obligations.MoveIsProtectedThenSkippedThenWritten
  refine ⟨fun _ off data s hoff hlt => ?_, fun _ off data s hoff hle => ?_, fun s => ⟨rfl, rfl⟩, fun s v => ⟨_, rfl, rfl⟩, rfl, rfl,
    by decide, fun _ data s hcfg => execMove_protected data (copcon_protected hcfg)⟩
  · have hprotected : regOffset off < copperThreshold s := by
      rw [regOffset_of_moveOffsetOk hoff]
      exact hlt
    exact execMove_protected data hprotected
  · have hsafe : copperThreshold s ≤ regOffset off := by
      rw [regOffset_of_moveOffsetOk hoff]
      exact hle
    exact ⟨fun hskip => execMove_skipped data hskip hsafe, fun hskip => execMove_eq_regWrite data hskip hsafe⟩

/-! ### WAIT and SKIP by state -/

section
variable (vp hp : Byte) (bfd : Bool) (ve : BitVec 7) (he : Byte) {s : State}

theorem execWait_readInst (h : s.cop.st = .readInst) :
    execWait vp hp bfd ve he s = .next (s.withCop { s.cop with skipNext := false, st := .needFreeCycle }) := by
  rw [execWait, h]

theorem execSkip_readInst (h : s.cop.st = .readInst) :
    execSkip vp hp bfd ve he s = .next (s.withCop { s.cop with skipNext := false, st := .needFreeCycle }) := by
  rw [execSkip, h]

theorem execWait_needFreeCycle (h : s.cop.st = .needFreeCycle) :
    execWait vp hp bfd ve he s = .next (s.withCopState .wait) := by
  rw [execWait, h]

theorem execSkip_needFreeCycle (h : s.cop.st = .needFreeCycle) :
    execSkip vp hp bfd ve he s = .next (s.withCopState .skip) := by
  rw [execSkip, h]

theorem execWait_wait (h : s.cop.st = .wait) :
    execWait vp hp bfd ve he s = .next (if copperCond vp hp bfd ve he s then s.withCopState .readInst else s) := by
  rw [execWait, h]

theorem execSkip_skip (h : s.cop.st = .skip) : execSkip vp hp bfd ve he s =
    .next (s.withCop { s.cop with skipNext := s.cop.skipNext || copperCond vp hp bfd ve he s, st := .readInst }) := by
  rw [execSkip, h]

/-- A WAIT resolves exactly when its comparison holds (R250). -/
theorem execWait_resolves_iff (h : s.cop.st = .wait) :
    execWait vp hp bfd ve he s = .next (s.withCopState .readInst) ↔ copperCond vp hp bfd ve he s := by
  rw [execWait_wait vp hp bfd ve he h]
  refine ⟨fun hres => ?_, fun hcond => congrArg _ (if_pos hcond)⟩
  by_contra hcond
  rw [if_neg hcond] at hres
  have hsame : s = s.withCopState .readInst := Host.Outcome.next.inj hres
  have hst : s.cop.st = .readInst := congrArg (fun u : State => u.cop.st) hsame
  rw [h] at hst
  cases hst

end

/-- Settles O12: each instruction in the state just after its fetch and in the turn that it then uses. -/
theorem waitAndSkipUseOneUnclaimedTurn : Obligations.WaitAndSkipUseOneUnclaimedTurn := by
  unfold Obligations.WaitAndSkipUseOneUnclaimedTurn
  intro vp hp bfd ve he s
  exact ⟨fun h => ⟨execWait_readInst vp hp bfd ve he h, execSkip_readInst vp hp bfd ve he h⟩,
    fun h => ⟨execWait_needFreeCycle vp hp bfd ve he h, execSkip_needFreeCycle vp hp bfd ve he h⟩⟩

/-! ### The comparison -/

theorem toNat_copperCur (s : State) :
    (copperCur s).toNat = 256 * (s.beam.vpos.toNat % 256) + (s.beam.hpos.toNat / 2 + 1) % 256 := by
  have hahead : (s.cc + copWakeAhead / 2).toNat = (s.cc.toNat + 1) % 65536 := BitVec.toNat_add _ _
  have hhpos := s.beam.hpos.isLt
  rw [copperCur, toNat_append_eq, BitVec.extractLsb'_toNat, BitVec.extractLsb'_toNat, hahead, cc_toNat, Nat.shiftRight_zero,
    Nat.shiftRight_zero]
  omega

theorem copperCur_eq (s : State) :
    copperCur s = BitVec.ofNat 16 (256 * (s.beam.vpos.toNat % 256) + (s.beam.hpos.toNat / 2 + 1) % 256) := by
  rw [← toNat_copperCur, BitVec.ofNat_toNat, BitVec.setWidth_eq]

/-- Settles O13: the position compared is the beam's, and each instruction acts on the comparison in its own state. -/
theorem waitAndSkipCompareTheBeamWithTheTarget : Obligations.WaitAndSkipCompareTheBeamWithTheTarget := by
  unfold Obligations.WaitAndSkipCompareTheBeamWithTheTarget
  intro vp hp bfd ve he s target mask cur met
  have hmet : copperCond vp hp bfd ve he s = met := by
    rw [copperCond, beamOk, copperCur_eq]
    rfl
  rw [← hmet]
  exact ⟨execWait_wait vp hp bfd ve he, execSkip_skip vp hp bfd ve he⟩

/-! ### The full mask -/

theorem copperMask_full : copperMask 0x7F 0xFE = 0xFFFE := by decide

/-- Under the full mask the lowest bit is the only one that is not compared. -/
theorem toNat_and_fullMask (x : Word) : (x &&& 0xFFFE).toNat = 2 * (x.toNat / 2) := by
  have hmask : (0xFFFE : Word) = BitVec.allOnes 16 <<< 1 := by decide
  have hshift : x &&& (0xFFFE : Word) = x >>> 1 <<< 1 := by rw [hmask, BitVec.shiftLeft_ushiftRight]
  have hx := x.isLt
  rw [hshift, BitVec.toNat_shiftLeft, BitVec.toNat_ushiftRight, Nat.shiftRight_eq_div_pow, Nat.shiftLeft_eq]
  omega

/-- With the full mask and the blitter overridden, the comparison is one of positions (R249). -/
theorem copperCond_full_iff (vp hp : Byte) (s : State) :
    copperCond vp hp true 0x7F 0xFE s ↔ (copperTarget vp hp).toNat / 2 ≤ (copperCur s).toNat / 2 := by
  rw [copperCond, beamOk, copperMask_full, Bool.true_or, Bool.and_true, decide_eq_true_iff, BitVec.le_def, toNat_and_fullMask,
    toNat_and_fullMask, Nat.mul_le_mul_left_iff (by decide)]

/-- Below colclock 255 the position compared does not fall along a line (R254). -/
theorem copperCur_mono {s s' : State} (hv : s.beam.vpos = s'.beam.vpos) (hh : s.beam.hpos.toNat / 2 ≤ s'.beam.hpos.toNat / 2)
    (hend : s'.beam.hpos.toNat / 2 < 255) : (copperCur s).toNat ≤ (copperCur s').toNat := by
  rw [toNat_copperCur, toNat_copperCur, hv]
  omega

/-- Settles O14: the position compared rises along the line, and with the full mask so does what is left of it. -/
theorem fullMaskWaitStaysMetToTheLineEnd : Obligations.FullMaskWaitStaysMetToTheLineEnd := by
  unfold Obligations.FullMaskWaitStaysMetToTheLineEnd
  intro vp hp s s' hst hst' hv hh hend hres
  have hmet := (copperCond_full_iff vp hp s).1 ((execWait_resolves_iff vp hp true 0x7F 0xFE hst).1 hres)
  have hmono := copperCur_mono hv hh hend
  have hmet' := (copperCond_full_iff vp hp s').2 (hmet.trans (Nat.div_le_div_right hmono))
  exact (execWait_resolves_iff vp hp true 0x7F 0xFE hst').2 hmet'

/-- Up to colclock 0xE2 the position compared stays below the one that the end of a list waits for, on the last line too. -/
theorem endOfList_not_met {s : State} (h : s.beam.hpos.toNat / 2 ≤ 0xE2) : ¬ copperCond 0xFF 0xFE true 0x7F 0xFE s := by
  have htarget : (copperTarget 0xFF 0xFE).toNat = 0xFFFE := by decide
  rw [copperCond_full_iff, htarget, toNat_copperCur]
  omega

/-- Settles O15: the comparison fails at each of these colclocks, so the WAIT goes on. -/
theorem endOfListWaitNeverResolves : Obligations.EndOfListWaitNeverResolves := by
  unfold Obligations.EndOfListWaitNeverResolves
  refine ⟨by decide, fun s hst hcc => ?_⟩
  exact (execWait_wait _ _ _ _ _ hst).trans (congrArg _ (if_neg (endOfList_not_met hcc)))

end Sys2Proof.Machine
end

section
/-! The copper's turns: the fetch of a word (R244, R245), a turn in each state (R242), and the jump strobes (R252, R253). -/

namespace Sys2Proof.Machine

/-! ### The fetch -/

theorem copperSlotOk_iff {s : State} : copperSlotOk s ↔ s.beam.hpos.toNat / 2 ∉ s.cfg.copperBlocked := by
  rw [copperSlotOk, cc_toNat, decide_eq_true_iff]

/-- Two words whose first has its low bit set are a WAIT or a SKIP, and just fetched both wait for the free turn (R245, R248). -/
theorem exec_decodeCopper_beamWords {w1 w2 : Word} {s : State} (h1 : w1.getLsbD 0) (hst : s.cop.st = .readInst) :
    exec (decodeCopper w1 w2) s = .next (s.withCop { s.cop with skipNext := false, st := .needFreeCycle }) := by
  rw [decodeCopper, if_neg (by simp [h1])]
  split
  · exact execWait_readInst _ _ _ _ _ hst
  · exact execSkip_readInst _ _ _ _ _ hst

section
variable {s : State} (hok : copperSlotOk s) (hrange : dmaInRange s s.cop.pc)
include hok

theorem copperFetch_outOfRange (h : dmaInRange s s.cop.pc = false) : copperFetch s = .fault .chipAddressOutOfRange := by
  rw [copperFetch, if_pos hok]
  exact if_neg (Bool.eq_false_iff.1 h)

include hrange

theorem copperFetch_overflow (h : ¬ ptrFits s.cop.pc 2) : copperFetch s = .fault .pointerOverflow := by
  rw [copperFetch, if_pos hok, withMemRead_of_inRange hrange]
  exact if_neg h

/-- A fetch that reads its word claims the slot for it and latches it; with a second word the instruction is executed. -/
theorem copperFetch_of_fits (h : ptrFits s.cop.pc 2) :
    copperFetch s =
      let w := Mem.readWord s.mem (dmaAddr s s.cop.pc)
      let u := grant .copper s.cop.pc w (s.withCop { s.cop with pc := s.cop.pc + 2 })
      if s.cop.haveIr1 then exec (decodeCopper s.cop.ir1 w) (copperLatch2 w u) else .next (copperLatch1 w u) := by
  rw [copperFetch, if_pos hok, withMemRead_of_inRange hrange, withPtrAdd_of_fits h]
  rfl

end

/-- Settles O17: the tests of a fetch in their order, and what the word read completes. -/
theorem copperFetchTakesOneWordAndExecutesTheSecond : Obligations.CopperFetchTakesOneWordAndExecutesTheSecond := by
  unfold Obligations.CopperFetchTakesOneWordAndExecutesTheSecond
  intro s hst w g c
  refine ⟨fun hblocked => copperFetch_blocked ?_, fun hfree => ?_⟩
  · exact Bool.eq_false_iff.2 fun hok => copperSlotOk_iff.1 hok hblocked
  · have hok : copperSlotOk s := copperSlotOk_iff.2 hfree
    refine ⟨copperFetch_outOfRange hok, copperFetch_overflow hok, fun hrange hfits => ?_⟩
    rw [copperFetch_of_fits hok hrange hfits]
    refine ⟨fun hfirst => if_neg (Bool.eq_false_iff.1 hfirst), fun hsecond hmove => ?_, fun hsecond hbeam => ?_⟩
    · have hdecode : decodeCopper s.cop.ir1 w = moveOf s.cop.ir1 w := if_pos hmove
      exact (if_pos hsecond).trans (congrArg (exec · _) hdecode)
    · exact (if_pos hsecond).trans (exec_decodeCopper_beamWords hbeam hst)

/-! ### A turn in each state -/

section
variable {s : State}

theorem copperTurn_off (h : s.dmaOn dmaCop = false) : copperTurn s = .next s := if_neg (Bool.eq_false_iff.1 h)

variable (hon : s.dmaOn dmaCop)
include hon

theorem copperTurn_halted (h : s.cop.st = .halted) : copperTurn s = .next s := by
  rw [copperTurn, if_pos hon, h]

theorem copperTurn_vblank (h : s.cop.st = .vblank) : copperTurn s = copperFetch (copperRestart s) := by
  rw [copperTurn, if_pos hon, h]

theorem copperTurn_readInst (h : s.cop.st = .readInst) : copperTurn s = copperFetch s := by
  rw [copperTurn, if_pos hon, h]

/-- After the free turn, bit 0 of the second word tells a SKIP from a WAIT (R248). -/
theorem copperTurn_needFreeCycle (h : s.cop.st = .needFreeCycle) :
    copperTurn s = .next (s.withCopState (if s.cop.ir2.getLsbD 0 then .skip else .wait)) := by
  rw [copperTurn, if_pos hon, h]
  dsimp only
  split
  · exact execSkip_needFreeCycle _ _ _ _ _ h
  · exact execWait_needFreeCycle _ _ _ _ _ h

theorem copperTurn_wait (h : s.cop.st = .wait) : copperTurn s = exec (waitOf s.cop.ir1 s.cop.ir2) s := by
  rw [copperTurn, if_pos hon, h]

theorem copperTurn_skip (h : s.cop.st = .skip) : copperTurn s = exec (skipOf s.cop.ir1 s.cop.ir2) s := by
  rw [copperTurn, if_pos hon, h]

theorem copperTurn_jmpDelay1 (h : s.cop.st = .jmpDelay1) : copperTurn s = .next (s.withCopState .jmpDelay2) := by
  rw [copperTurn, if_pos hon, h]

theorem copperTurn_jmpDelay2 (h : s.cop.st = .jmpDelay2) : copperTurn s = .next (copperLand s) := by
  rw [copperTurn, if_pos hon, h]

end

/-- Settles O16: the turn in each of the eight states, the comparison being that of the two latched words. -/
theorem copperTurnFollowsItsState : Obligations.CopperTurnFollowsItsState := by
  unfold Obligations.CopperTurnFollowsItsState
  intro s cond
  refine ⟨copperTurn_off, fun hon => ⟨copperTurn_halted hon, copperTurn_vblank hon, copperTurn_readInst hon,
    copperTurn_needFreeCycle hon, fun h => ?wait, fun h => ?skip, copperTurn_jmpDelay1 hon, copperTurn_jmpDelay2 hon⟩⟩
  case wait => exact (copperTurn_wait hon h).trans (execWait_wait _ _ _ _ _ h)
  case skip => exact (copperTurn_skip hon h).trans (execSkip_skip _ _ _ _ _ h)

/-! ### Jump strobes -/

/-- A read of the register window leaves an answer and nothing else (R252). -/
theorem customRead_replies (width : Width) (off : Word) (s : State) :
    Ends False (fun t => ∃ v, t = s.replied v) (customRead width off s) := by
  unfold customRead
  cases width with
  | byte => exact .next ⟨_, rfl⟩
  | word | long =>
    dsimp only
    split
    · exact .refused _
    · exact .next ⟨_, rfl⟩

/-- Settles O18: the strobe's write rule, the two turns of the jump, and the reads, which only answer. -/
theorem jumpStrobesTakeTwoTurnsToTheLocationRegister : Obligations.JumpStrobesTakeTwoTurnsToTheLocationRegister := by
  unfold Obligations.JumpStrobesTakeTwoTurnsToTheLocationRegister
  refine ⟨fun v s => ⟨rfl, rfl⟩, fun s hon hst => ?_, fun width off s t hread => ?_⟩
  · have hland : copperTurn (s.withCopState .jmpDelay2) = .next (copperLand (s.withCopState .jmpDelay2)) :=
      copperTurn_jmpDelay2 hon rfl
    rw [copperTurn_jmpDelay1 hon hst, andThen_next, hland]
    rfl
  · obtain ⟨v, rfl⟩ := (hread ▸ customRead_replies width off s).of_next
    rfl

end Sys2Proof.Machine
end

section
/-! The MFM round trip (R300): the clock bits do not reach the data bits, a sector frame decodes to its sector, and the search
over an encoded track finds the eleven frames in order. -/

namespace Sys2Proof.Machine

/-! ### Data bits and clock bits -/

/-- The clock bits stand at the odd positions, so the data bits of a half are left as they were (R106). -/
theorem mfmHalf_dataBits (p : Bool) (x : Long) : mfmHalf p x &&& 0x55555555 = x &&& 0x55555555 := by
  have hclock : (0xAAAAAAAA : Long) &&& 0x55555555 = 0#32 := by decide
  have hclock' : ∀ y : Long, y &&& 0xAAAAAAAA &&& 0x55555555 = 0#32 := fun y => by
    rw [BitVec.and_assoc, hclock, BitVec.and_zero]
  simp only [mfmHalf, BitVec.and_or_distrib_right, hclock', BitVec.or_zero]

/-- The join reads data bits alone (R107). -/
theorem joinHalves_of_dataBits {o e x : Long} (ho : o &&& 0x55555555 = oddHalf x &&& 0x55555555)
    (he : e &&& 0x55555555 = evenHalf x &&& 0x55555555) : joinHalves o e = x := by
  have hodd : (oddHalf x &&& 0x55555555) <<< 1 = x &&& 0xAAAAAAAA := by
    ext i hi
    interval_cases i <;> simp [oddHalf]
  have heven : evenHalf x &&& 0x55555555 = x &&& 0x55555555 := by
    rw [evenHalf, BitVec.and_assoc, BitVec.and_self]
  have hall : (0xAAAAAAAA : Long) ||| 0x55555555 = BitVec.allOnes 32 := by decide
  rw [joinHalves, ho, he, hodd, heven, ← BitVec.and_or_distrib_left, hall, BitVec.and_allOnes]

theorem joinHalves_mfmHalf (p q : Bool) (x : Long) :
    joinHalves (mfmHalf p (oddHalf x)) (mfmHalf q (evenHalf x)) = x :=
  joinHalves_of_dataBits (mfmHalf_dataBits _ _) (mfmHalf_dataBits _ _)

/-! ### Longwords in lists of bytes -/

theorem longAt_bytesOfLong (x : Long) (rest : List Byte) : longAt (bytesOfLong x ++ rest) 0 = x := by
  simp only [longAt, bytesOfLong, longOfBytes, List.cons_append, List.nil_append, List.getD_cons_zero, List.getD_cons_succ,
    Nat.zero_add]
  ext i hi
  simp only [BitVec.getElem_append, BitVec.getElem_extractLsb']
  interval_cases i <;> simp [BitVec.getLsbD_eq_getElem]

theorem longAt_append_left {l r : List Byte} {i : Nat} (h : i + 3 < l.length) : longAt (l ++ r) i = longAt l i := by
  unfold longAt
  repeat rw [List.getD_append _ _ _ _ (by omega)]

theorem longAt_append_right {l r : List Byte} {i j : Nat} (h : i = l.length + j) : longAt (l ++ r) i = longAt r j := by
  subst h
  unfold longAt
  repeat rw [List.getD_append_right _ _ _ _ (by omega)]
  simp [Nat.add_assoc]

/-- A longword that lies in the middle part of a list. -/
theorem longAt_middle {b l m r : List Byte} {i j : Nat} (hb : b = l ++ (m ++ r)) (hi : i = l.length + j)
    (hj : j + 3 < m.length) : longAt b i = longAt m j := by
  rw [hb, longAt_append_right hi, longAt_append_left hj]

theorem joinHalves_middle {b l m r : List Byte} {n : Nat} (hb : b = l ++ (m ++ r)) (hn : n = l.length) (hm : m.length = 8) :
    joinHalves (longAt b n) (longAt b (n + 4)) = joinHalves (longAt m 0) (longAt m 4) := by
  rw [longAt_middle hb (j := 0) hn (by omega), longAt_middle hb (j := 4) (by rw [hn]) (by omega)]

theorem xorLongs_bytesOfLong (x : Long) (rest : List Byte) : xorLongs (bytesOfLong x ++ rest) = x ^^^ xorLongs rest := by
  have hx : longOfBytes (x.extractLsb' 24 8) (x.extractLsb' 16 8) (x.extractLsb' 8 8) (x.extractLsb' 0 8) = x :=
    longAt_bytesOfLong x rest
  simp only [bytesOfLong, List.cons_append, List.nil_append, xorLongs, hx]

/-! ### Emitted halves -/

/-- The data bits of longword `i` of emitted halves are those of half `i`. -/
theorem longAt_emitHalves (last : Bool) (xs : List Long) (i : Nat) (hi : i < xs.length) :
    longAt (emitHalves last xs).bytes (4 * i) &&& 0x55555555 = xs[i] &&& 0x55555555 := by
  induction xs generalizing last i with
  | nil => exact absurd hi (Nat.not_lt_zero _)
  | cons x xs ih =>
    simp only [emitHalves]
    cases i with
    | zero => rw [Nat.mul_zero, longAt_bytesOfLong, mfmHalf_dataBits, List.getElem_cons_zero]
    | succ i =>
      have hstep : 4 * (i + 1) = (bytesOfLong (mfmHalf last x)).length + 4 * i := by
        simp only [bytesOfLong, List.length_cons, List.length_nil]
        omega
      rw [longAt_append_right hstep, List.getElem_cons_succ]
      exact ih _ _ (Nat.lt_of_succ_lt_succ hi)

/-- Joining longword `i` of the odd halves with longword `i` of the even halves gives the longword (R107, R298). -/
theorem joinHalves_emitSplit (last : Bool) (xs : List Long) (i : Nat) (hi : i < xs.length) :
    joinHalves (longAt (emitSplit last xs).bytes (4 * i)) (longAt (emitSplit last xs).bytes (4 * xs.length + 4 * i)) = xs[i] := by
  have hodd := length_emitHalves last (xs.map oddHalf)
  rw [List.length_map] at hodd
  apply joinHalves_of_dataBits <;> simp only [emitSplit]
  · rw [longAt_append_left (by omega), longAt_emitHalves _ _ _ (by simpa using hi), List.getElem_map]
  · rw [longAt_append_right (j := 4 * i) (by omega), longAt_emitHalves _ _ _ (by simpa using hi), List.getElem_map]

theorem xor_and_dataBits (x y : Long) : (x ^^^ y) &&& 0x55555555 = (x &&& 0x55555555) ^^^ (y &&& 0x55555555) := by
  ext i hi
  simp only [BitVec.getElem_and, BitVec.getElem_xor, Bool.and_xor_distrib_right]

/-- A checksum reads data bits alone, so the data bit before the bytes does not matter (R110). -/
theorem mfmChecksum_emitSplit (p q : Bool) (xs : List Long) :
    mfmChecksum (emitSplit p xs).bytes = mfmChecksum (emitSplit q xs).bytes := by
  cases xs with
  | nil => rfl
  | cons x xs =>
    simp only [mfmChecksum, emitSplit, emitHalves, List.map_cons, List.append_assoc, xorLongs_bytesOfLong,
      xor_and_dataBits, mfmHalf_dataBits]

/-! ### A sector frame -/

/-- The parts of a sector frame after its sync words, header, label, header checksum, payload and data checksum, with what R299
asks of them. -/
structure FrameParts (track sector : Nat) (data : List Long) (hdr label hsum pay dsum : List Byte) : Prop where
  hdrLength : hdr.length = 8
  labelLength : label.length = 32
  hsumLength : hsum.length = 8
  payLength : pay.length = 1024
  dsumLength : dsum.length = 8
  startsUnlikeSync : hdr.head? ≠ some 0x44
  header : joinHalves (longAt hdr 0) (longAt hdr 4) = headerLong track sector
  headerSum : joinHalves (longAt hsum 0) (longAt hsum 4) = mfmChecksum (hdr ++ label)
  dataSum : joinHalves (longAt dsum 0) (longAt dsum 4) = mfmChecksum pay
  payload : ∀ i (hi : i < data.length), joinHalves (longAt pay (4 * i)) (longAt pay (512 + 4 * i)) = data[i]

/-- The bytes of a frame after its sync words, in the order that `SECTOR_CHECKSUM_FIRST` gives them (R108). -/
def frameBody (checksumFirst : Bool) (hdr label hsum pay dsum : List Byte) : List Byte :=
  hdr ++ (label ++ (hsum ++ if checksumFirst then dsum ++ pay else pay ++ dsum))

/-- One longword split and joined. -/
theorem joinHalves_emitSplit_singleton (last : Bool) (x : Long) :
    joinHalves (longAt (emitSplit last [x]).bytes 0) (longAt (emitSplit last [x]).bytes 4) = x :=
  joinHalves_emitSplit last [x] 0 Nat.zero_lt_one

theorem headerLong_format (track sector : Nat) : (headerLong track sector).extractLsb' 24 8 = 0xFF :=
  (BitVec.extractLsb'_append_eq_of_le (by decide)).trans
    ((BitVec.extractLsb'_append_eq_of_le (by decide)).trans BitVec.extractLsb'_append_eq_left)

theorem headerLong_track (track sector : Nat) : (headerLong track sector).extractLsb' 16 8 = BitVec.ofNat 8 track :=
  (BitVec.extractLsb'_append_eq_of_le (by decide)).trans
    ((BitVec.extractLsb'_append_eq_of_le (by decide)).trans BitVec.extractLsb'_append_eq_right)

theorem headerLong_sector (track sector : Nat) : (headerLong track sector).extractLsb' 8 8 = BitVec.ofNat 8 sector :=
  (BitVec.extractLsb'_append_eq_of_le (by decide)).trans BitVec.extractLsb'_append_eq_right

/-- A header starts with the format byte's odd bits, which no sync word starts with. -/
theorem head_emitSplit_headerLong (track sector : Nat) :
    (emitSplit true [headerLong track sector]).bytes.head? ≠ some 0x44 := by
  have hformat : ((headerLong track sector).extractLsb' 24 8).getLsbD 1 = true := by rw [headerLong_format]; rfl
  have hbit : ((mfmHalf true (oddHalf (headerLong track sector))).extractLsb' 24 8).getLsbD 0 = true := by
    simpa [mfmHalf, oddHalf] using hformat
  intro hhead
  have hbyte : (mfmHalf true (oddHalf (headerLong track sector))).extractLsb' 24 8 = 0x44 := Option.some.inj hhead
  rw [hbyte] at hbit
  exact absurd hbit (by decide)

/-- An encoded sector is two zero bytes, the sync words and such a frame (R108, R298). -/
theorem encodeSector_frameParts (checksumFirst : Bool) (track sector : Nat) {data : List Long} (hd : data.length = 128)
    (last : Bool) :
    ∃ hdr label hsum pay dsum, FrameParts track sector data hdr label hsum pay dsum
      ∧ (encodeSector checksumFirst track sector data last).bytes
        = (emitZeroBytes last 2).bytes ++ (syncBytes ++ frameBody checksumFirst hdr label hsum pay dsum) := by
  have hjoin : ∀ p i (hi : i < data.length),
      joinHalves (longAt (emitSplit p data).bytes (4 * i)) (longAt (emitSplit p data).bytes (512 + 4 * i)) = data[i] := by
    intro p i hi
    have := joinHalves_emitSplit p data i hi
    rwa [hd] at this
  unfold encodeSector
  extract_lets pre hdr label hsum dsum pay pay' dsum'
  cases checksumFirst with
  | true =>
    refine ⟨hdr.bytes, label.bytes, hsum.bytes, pay.bytes, dsum.bytes, ⟨length_emitSplit _ _, length_emitSplit _ _,
      length_emitSplit _ _, ?_, length_emitSplit _ _, head_emitSplit_headerLong _ _, joinHalves_emitSplit_singleton _ _,
      joinHalves_emitSplit_singleton _ _, ?_, hjoin _⟩, ?_⟩
    · rw [length_emitSplit, hd]
    · exact (joinHalves_emitSplit_singleton _ _).trans (mfmChecksum_emitSplit _ _ _)
    · simp only [frameBody, List.append_assoc, if_true]
      rfl
  | false =>
    refine ⟨hdr.bytes, label.bytes, hsum.bytes, pay'.bytes, dsum'.bytes, ⟨length_emitSplit _ _, length_emitSplit _ _,
      length_emitSplit _ _, ?_, length_emitSplit _ _, head_emitSplit_headerLong _ _, joinHalves_emitSplit_singleton _ _,
      joinHalves_emitSplit_singleton _ _, joinHalves_emitSplit_singleton _ _, hjoin _⟩, ?_⟩
    · rw [length_emitSplit, hd]
    · simp only [frameBody, List.append_assoc]
      rfl

/-! ### The search -/

theorem skipSync_of_head {l : List Byte} (h : l.head? ≠ some 0x44) : skipSync l = l := by
  match l with
  | [] | [_] => rfl
  | a :: b :: rest =>
    have ha : ¬ (a = 0x44 ∧ b = 0x89) := fun hsync => h (congrArg some hsync.1)
    rw [skipSync, if_neg ha]

section
variable {track sector : Nat} {data : List Long} {hdr label hsum pay dsum : List Byte}
  (h : FrameParts track sector data hdr label hsum pay dsum)
include h

theorem FrameParts.length_body (checksumFirst : Bool) : (frameBody checksumFirst hdr label hsum pay dsum).length = 1080 := by
  cases checksumFirst <;>
    simp [frameBody, h.hdrLength, h.labelLength, h.hsumLength, h.payLength, h.dsumLength]

theorem FrameParts.skipSync_body (checksumFirst : Bool) (rest : List Byte) :
    skipSync (frameBody checksumFirst hdr label hsum pay dsum ++ rest)
      = frameBody checksumFirst hdr label hsum pay dsum ++ rest := by
  refine skipSync_of_head ?_
  have hne : hdr ≠ [] := List.ne_nil_of_length_pos (by rw [h.hdrLength]; decide)
  rw [frameBody, List.append_assoc, List.head?_append_of_ne_nil _ hne]
  exact h.startsUnlikeSync

theorem FrameParts.body_around_pay (checksumFirst : Bool) :
    ∃ l r, frameBody checksumFirst hdr label hsum pay dsum = l ++ (pay ++ r)
      ∧ l.length = if checksumFirst then 56 else 48 := by
  cases checksumFirst with
  | true =>
    exact ⟨hdr ++ (label ++ (hsum ++ dsum)), [], by simp [frameBody],
      by simp [h.hdrLength, h.labelLength, h.hsumLength, h.dsumLength]⟩
  | false =>
    exact ⟨hdr ++ (label ++ hsum), dsum, by simp [frameBody], by simp [h.hdrLength, h.labelLength, h.hsumLength]⟩

theorem FrameParts.body_around_dsum (checksumFirst : Bool) :
    ∃ l r, frameBody checksumFirst hdr label hsum pay dsum = l ++ (dsum ++ r)
      ∧ l.length = if checksumFirst then 48 else 1072 := by
  cases checksumFirst with
  | true =>
    exact ⟨hdr ++ (label ++ hsum), pay, by simp [frameBody], by simp [h.hdrLength, h.labelLength, h.hsumLength]⟩
  | false =>
    exact ⟨hdr ++ (label ++ (hsum ++ pay)), [], by simp [frameBody],
      by simp [h.hdrLength, h.labelLength, h.hsumLength, h.payLength]⟩

theorem FrameParts.payload_eq (hd : data.length = 128) :
    ((List.range 128).map fun i => joinHalves (longAt pay (4 * i)) (longAt pay (512 + 4 * i))) = data := by
  refine List.ext_getElem (by simp [hd]) fun i hi hi' => ?_
  rw [List.getElem_map, List.getElem_range]
  exact h.payload i hi'

/-- The body of a frame decodes to its sector, unless that sector has been seen (R299, R300). -/
theorem FrameParts.decodeSector (checksumFirst : Bool) {c side : Nat} (hdata : data.length = 128) (htrack : track = 2 * c + side)
    (hbyte : track < 256) (hsector : sector ≤ 10) {seen : List Nat} (hnew : sector ∉ seen) :
    Machine.decodeSector checksumFirst c side seen (frameBody checksumFirst hdr label hsum pay dsum)
      = .ok (sector, data.flatMap bytesOfLong) := by
  have hbody : frameBody checksumFirst hdr label hsum pay dsum
      = [] ++ (hdr ++ (label ++ (hsum ++ if checksumFirst then dsum ++ pay else pay ++ dsum))) := rfl
  have hhsum : frameBody checksumFirst hdr label hsum pay dsum
      = (hdr ++ label) ++ (hsum ++ if checksumFirst then dsum ++ pay else pay ++ dsum) := by simp [frameBody]
  obtain ⟨lp, rp, hpay, hq⟩ := h.body_around_pay checksumFirst
  obtain ⟨ld, rd, hdsum, hr⟩ := h.body_around_dsum checksumFirst
  have hlabel : (hdr ++ label).length = 40 := by rw [List.length_append, h.hdrLength, h.labelLength]
  generalize frameBody checksumFirst hdr label hsum pay dsum = b at *
  have hheader : joinHalves (longAt b 0) (longAt b 4) = headerLong track sector :=
    (joinHalves_middle hbody rfl h.hdrLength).trans h.header
  have hheaderSum : joinHalves (longAt b 40) (longAt b 44) = mfmChecksum (b.take 40) := by
    rw [joinHalves_middle hhsum hlabel.symm h.hsumLength, h.headerSum, hhsum, List.take_left' hlabel]
  have hdataSum : joinHalves (longAt b ld.length) (longAt b (ld.length + 4)) = mfmChecksum ((b.drop lp.length).take 1024) := by
    rw [joinHalves_middle hdsum rfl h.dsumLength, h.dataSum, hpay, List.drop_left, List.take_left' h.payLength]
  have hdataBytes : ((List.range 128).flatMap fun i =>
      bytesOfLong (joinHalves (longAt b (lp.length + 4 * i)) (longAt b (lp.length + 512 + 4 * i))))
        = data.flatMap bytesOfLong := by
    conv_rhs => rw [← h.payload_eq hdata, List.flatMap_map]
    refine List.flatMap_congr fun i hi => ?_
    have hi' := List.mem_range.1 hi
    rw [longAt_middle hpay rfl (by rw [h.payLength]; omega),
      longAt_middle hpay (j := 512 + 4 * i) (by omega) (by rw [h.payLength]; omega)]
  have htrackByte : ((headerLong track sector).extractLsb' 16 8).toNat = 2 * c + side := by
    rw [headerLong_track, BitVec.toNat_ofNat, Nat.mod_eq_of_lt hbyte, htrack]
  have hsectorByte : ((headerLong track sector).extractLsb' 8 8).toNat = sector := by
    rw [headerLong_sector, BitVec.toNat_ofNat, Nat.mod_eq_of_lt (by omega)]
  simp only [Machine.decodeSector, hheader, htrackByte, hsectorByte, headerLong_format, ← hq, ← hr, hdataSum, hdataBytes]
  rw [if_neg (not_not_intro hheaderSum), if_neg (by simp), if_neg (by simp), if_neg (by omega), if_neg hnew, if_neg (by simp)]

end

/-- Bit 5 of the sync words' first byte is 0, so a byte with that bit set starts no sync word. -/
theorem decodeFrom_skip (checksumFirst : Bool) (c h fuel : Nat) (found : List (Nat × List Byte)) {a : Byte}
    (ha : a.getLsbD 5 = true) (b : Byte) (rest : List Byte) :
    decodeFrom checksumFirst c h (fuel + 1) found (a :: b :: rest) = decodeFrom checksumFirst c h fuel found rest := by
  have hne : ¬ (a = 0x44 ∧ b = 0x89) := by
    rintro ⟨rfl, -⟩
    exact absurd ha (by decide)
  rw [decodeFrom, if_neg hne]

theorem decodeFrom_nil (checksumFirst : Bool) (c h fuel : Nat) (found : List (Nat × List Byte)) :
    decodeFrom checksumFirst c h fuel found [] = .ok found := by
  cases fuel <;> rfl

/-- Both MFM words of a zero byte have bit 5 of their first byte set. -/
theorem mfmByte_zero_bit (last : Bool) : ((mfmByte last 0).extractLsb' 8 8).getLsbD 5 = true := by
  cases last <;> decide

/-- The search passes over zero bytes, a word in a step. -/
theorem decodeFrom_emitZeroBytes (checksumFirst : Bool) (c h fuel : Nat) (found : List (Nat × List Byte)) (rest : List Byte)
    (last : Bool) (n : Nat) :
    decodeFrom checksumFirst c h (fuel + n) found ((emitZeroBytes last n).bytes ++ rest)
      = decodeFrom checksumFirst c h fuel found rest := by
  induction n generalizing last with
  | zero => rfl
  | succ n ih => exact (decodeFrom_skip _ _ _ _ _ (mfmByte_zero_bit last) _ _).trans (ih false)

/-- The clock bit of the first cell is not looked at by the search. -/
theorem decodeFrom_fixFirstCell (checksumFirst : Bool) (c h fuel : Nat) (found : List (Nat × List Byte)) (rest : List Byte)
    (gapLast last : Bool) (n : Nat) :
    decodeFrom checksumFirst c h fuel found (fixFirstCell gapLast ((emitZeroBytes last (n + 1)).bytes ++ rest))
      = decodeFrom checksumFirst c h fuel found ((emitZeroBytes last (n + 1)).bytes ++ rest) := by
  have hbit := mfmByte_zero_bit last
  cases fuel with
  | zero => rfl
  | succ fuel =>
    refine (decodeFrom_skip _ _ _ _ _ ?_ _ _).trans (decodeFrom_skip _ _ _ _ _ hbit _ _).symm
    rw [getLsbD_setBit _ _ _ _ (by decide), if_neg (by decide), hbit]

/-- The search decodes a sector frame in three steps (R299, R300). -/
theorem decodeFrom_encodeSector (checksumFirst : Bool) {track c h sector : Nat} {data : List Long} (hdata : data.length = 128)
    (htrack : track = 2 * c + h) (hbyte : track < 256) (hsector : sector ≤ 10) {found : List (Nat × List Byte)}
    (hnew : sector ∉ found.map (·.1)) (fuel : Nat) (last : Bool) (rest : List Byte) :
    decodeFrom checksumFirst c h (fuel + 3) found ((encodeSector checksumFirst track sector data last).bytes ++ rest)
      = decodeFrom checksumFirst c h fuel (found ++ [(sector, data.flatMap bytesOfLong)]) rest := by
  obtain ⟨hdr, label, hsum, pay, dsum, hparts, hbytes⟩ := encodeSector_frameParts checksumFirst track sector hdata last
  have hlen := hparts.length_body checksumFirst
  have hskip : skipSync (0x44 :: 0x89 :: (frameBody checksumFirst hdr label hsum pay dsum ++ rest))
      = frameBody checksumFirst hdr label hsum pay dsum ++ rest := by
    rw [skipSync, if_pos ⟨rfl, rfl⟩, hparts.skipSync_body]
  have hlong : ¬ (frameBody checksumFirst hdr label hsum pay dsum ++ rest).length < 1080 := by
    rw [List.length_append, hlen]
    omega
  rw [hbytes, List.append_assoc, List.append_assoc, ← Nat.add_assoc fuel 1 2, decodeFrom_emitZeroBytes]
  simp only [syncBytes, List.cons_append, List.nil_append, decodeFrom, and_self, if_true, hskip]
  rw [if_neg hlong, List.take_left' hlen, List.drop_left' hlen,
    hparts.decodeSector checksumFirst hdata htrack hbyte hsector hnew]

/-- The search finds the encoded sectors from number `s` on, in order (R299, R300). -/
theorem decodeFrom_encodeSectors (checksumFirst : Bool) {track c h : Nat} (htrack : track = 2 * c + h) (hbyte : track < 256)
    (secs : List (List Long)) (hdata : ∀ d ∈ secs, d.length = 128) (s : Nat) (hs : s + secs.length ≤ 11)
    (found : List (Nat × List Byte)) (hfound : ∀ n ∈ found.map (·.1), n < s) (fuel : Nat) (last : Bool) (rest : List Byte) :
    decodeFrom checksumFirst c h (fuel + 3 * secs.length) found
        ((encodeSectors checksumFirst track s secs last).bytes ++ rest)
      = decodeFrom checksumFirst c h fuel
          (found ++ (List.range' s secs.length).zip (secs.map fun d => d.flatMap bytesOfLong)) rest := by
  induction secs generalizing s found last with
  | nil => simp [encodeSectors]
  | cons d secs ih =>
    rw [List.forall_mem_cons] at hdata
    rw [List.length_cons] at hs ⊢
    have hnew : s ∉ found.map (·.1) := fun hmem => Nat.lt_irrefl s (hfound s hmem)
    have hfound' : ∀ n ∈ (found ++ [(s, d.flatMap bytesOfLong)]).map (·.1), n < s + 1 := by
      intro n hn
      rw [List.map_append, List.mem_append] at hn
      rcases hn with hn | hn
      · exact Nat.lt_succ_of_lt (hfound n hn)
      · rw [List.mem_singleton.1 hn]
        exact Nat.lt_succ_self s
    simp only [encodeSectors, List.append_assoc]
    rw [show fuel + 3 * (secs.length + 1) = fuel + 3 * secs.length + 3 by omega,
      decodeFrom_encodeSector checksumFirst hdata.1 htrack hbyte (by omega) hnew,
      ih hdata.2 (s + 1) (by omega) _ hfound', List.append_assoc]
    rfl

/-- A track with a sector on it starts with the zero bytes of the first frame. -/
theorem encodeSectors_startsWithZeroBytes (checksumFirst : Bool) (track s : Nat) {secs : List (List Long)} (hs : secs ≠ [])
    (hdata : ∀ d ∈ secs, d.length = 128) (last : Bool) :
    ∃ rest, (encodeSectors checksumFirst track s secs last).bytes = (emitZeroBytes last 2).bytes ++ rest := by
  obtain ⟨d, secs, rfl⟩ := List.exists_cons_of_ne_nil hs
  rw [List.forall_mem_cons] at hdata
  obtain ⟨_, _, _, _, _, -, hbytes⟩ := encodeSector_frameParts checksumFirst track s hdata.1 last
  simp only [encodeSectors, hbytes, List.append_assoc]
  exact ⟨_, rfl⟩

/-- Eleven encoded sectors and a gap of any length decode to the sectors, whatever the first clock bit (R300). -/
theorem decodeFrom_sectorsAndGap (checksumFirst : Bool) {c h : Nat} (hc : c ≤ 79) (hh : h ≤ 1) {secs : List (List Long)}
    (hn : secs.length = 11) (hdata : ∀ d ∈ secs, d.length = 128) {f gap : Emit}
    (hf : f = encodeSectors checksumFirst (2 * c + h) 0 secs false) {n : Nat} (hgap : gap = emitZeroBytes f.last n) (last : Bool) :
    decodeFrom checksumFirst c h (fixFirstCell last (f.bytes ++ gap.bytes)).length []
        (fixFirstCell last (f.bytes ++ gap.bytes))
      = .ok ((List.range 11).zip (secs.map fun d => d.flatMap bytesOfLong)) := by
  have hne : secs ≠ [] := List.ne_nil_of_length_pos (by omega)
  obtain ⟨rest, hstart⟩ := encodeSectors_startsWithZeroBytes checksumFirst (2 * c + h) 0 hne hdata false
  have hfuel : (fixFirstCell last (f.bytes ++ gap.bytes)).length = 11935 + n + n + 3 * secs.length := by
    rw [length_fixFirstCell, List.length_append, hgap, length_emitZeroBytes, hf, length_encodeSectors _ _ _ hdata, hn,
      sectorMfmBytes]
    omega
  calc decodeFrom checksumFirst c h (fixFirstCell last (f.bytes ++ gap.bytes)).length []
        (fixFirstCell last (f.bytes ++ gap.bytes))
      = decodeFrom checksumFirst c h (11935 + n + n + 3 * secs.length) [] (f.bytes ++ gap.bytes) := by
        rw [hfuel, hf, hstart, List.append_assoc]
        exact decodeFrom_fixFirstCell _ _ _ _ _ _ _ _ 1
    _ = decodeFrom checksumFirst c h (11935 + n + n)
          ((List.range' 0 secs.length).zip (secs.map fun d => d.flatMap bytesOfLong)) (gap.bytes ++ []) := by
        rw [hf, List.append_nil]
        exact decodeFrom_encodeSectors checksumFirst rfl (by omega) secs hdata 0 (by omega) [] (by simp) _ _ _
    _ = .ok ((List.range 11).zip (secs.map fun d => d.flatMap bytesOfLong)) := by
        rw [hgap, decodeFrom_emitZeroBytes, decodeFrom_nil, hn, List.range_eq_range']

/-- Settles O56: the search passes over the first frame's first cell, finds the eleven frames, and passes over the gap; the length
is that of length_encodeTrack. -/
theorem trackDecodesToTheSectorsEncoded : Obligations.TrackDecodesToTheSectorsEncoded := by
  unfold Obligations.TrackDecodesToTheSectorsEncoded
  exact ⟨fun k c h secs hk hc hh hn hdata =>
    ⟨length_encodeTrack hk c h hn hdata, decodeFrom_sectorsAndGap _ hc hh hn hdata rfl rfl _⟩, joinHalves_mfmHalf⟩

end Sys2Proof.Machine
end

section
/-! The disk length register (R281): the four kinds of write that start, repeat and stop a transfer. -/

namespace Sys2Proof.Machine

/-- The length field is 0 exactly when the low fourteen bits are (R281). -/
theorem lengthField_eq_zero_iff (v : Word) : v.extractLsb' 0 14 = 0 ↔ v.toNat % 16384 = 0 := by
  rw [← BitVec.toNat_inj, BitVec.extractLsb'_toNat]
  simp

section
variable {v : Word} {s : State}

theorem writeDsklen_whileActive (hv : v.getLsbD 15) (ha : s.dsk.active) :
    writeDsklen v s = s.withDsk { s.dsk with prevEn := true } := by
  simp [writeDsklen, hv, ha]

/-- The second write in a row starts the transfer, or completes one of length 0 at once. -/
theorem writeDsklen_second (hv : v.getLsbD 15) (ha : s.dsk.active = false) (hp : s.dsk.prevEn) :
    writeDsklen v s
      = if v.toNat % 16384 = 0 then
          raiseIrq irqDskblk s.cfg.irqDelayDskblk
            (s.withDsk { s.dsk with len := v, remaining := v.extractLsb' 0 14, synced := false })
        else s.withDsk { s.dsk with len := v, remaining := v.extractLsb' 0 14, synced := false, active := true } := by
  simp only [writeDsklen, hv, ha, hp, lengthField_eq_zero_iff]
  rfl

theorem writeDsklen_first (hv : v.getLsbD 15) (ha : s.dsk.active = false) (hp : s.dsk.prevEn = false) :
    writeDsklen v s = s.withDsk { s.dsk with len := v, prevEn := true } := by
  simp only [writeDsklen, hv, ha, hp, Bool.and_false, Bool.false_eq_true, if_true, if_false]

/-- A write without bit 15 flushes an active write transfer and stops it. -/
theorem writeDsklen_stop (hv : v.getLsbD 15 = false) :
    writeDsklen v s
      = let u := if s.dsk.active ∧ s.dsk.len.getLsbD 14 then diskWriteFlush s else s
        u.withDsk { u.dsk with active := false, len := v, prevEn := false } := by
  simp only [writeDsklen, hv, Disk.writing, Bool.and_eq_true]
  rfl

end

/-- Settles O24: the four cases of the write rule. -/
theorem diskLengthWritesStartAndStopTransfers : Obligations.DiskLengthWritesStartAndStopTransfers := by
  unfold Obligations.DiskLengthWritesStartAndStopTransfers
  intro v s
  refine ⟨fun hv ha => ?_, fun hv ha hp => ?_, fun hv ha hp => ?_, fun hv => ?_⟩
  · exact congrArg Host.Outcome.next (writeDsklen_whileActive hv ha)
  · refine (congrArg Host.Outcome.next (writeDsklen_second hv ha hp)).trans ?_
    split <;> rfl
  · exact congrArg Host.Outcome.next (writeDsklen_first hv ha hp)
  · exact congrArg Host.Outcome.next (writeDsklen_stop hv)

end Sys2Proof.Machine
end

section
/-! The disk rows (R127, R283 to R288): the load of the track buffer, the word under the head read or written, and the flush of
a write transfer. -/

namespace Sys2Proof.Machine

/-! ### The track buffer -/

/-- Memory built from a list of bytes reads as the list, and as 0 after its end. -/
theorem Mem.read_ofBytes (bytes : List Byte) (a i : Nat) : Mem.read (Mem.ofBytes a bytes) (a + i) = bytes.getD i 0 := by
  induction bytes generalizing a i with
  | nil => rfl
  | cons v vs ih =>
    have hnext : ∀ j, Mem.read (Mem.ofBytes (a + 1) vs) (a + (j + 1)) = vs.getD j 0 := fun j => by
      rw [← ih (a + 1) j, Nat.add_assoc, Nat.add_comm 1 j]
    have hfirst : Mem.read (Mem.ofBytes (a + 1) vs) a = 0 :=
      Mem.read_below _ _ _ (Mem.wfAbove_ofBytes _ _) (Nat.lt_succ_self a)
    cases i with
    | zero =>
      simp only [Mem.ofBytes, Nat.add_zero, List.getD_cons_zero]
      split
      · rename_i hv
        rw [hfirst, hv]
        rfl
      · exact if_pos rfl
    | succ j =>
      simp only [Mem.ofBytes, List.getD_cons_succ]
      split
      · exact hnext j
      · exact (if_neg (by omega)).trans (hnext j)

theorem trackBufferLoad_of_valid (d : Fin 4) {s : State} (h : s.dsk.bufValid) : trackBufferLoad d s = s := if_pos h

/-- The load of an invalid buffer: the medium's track comes into it, and the head stays inside it (R284). -/
theorem trackBufferLoad_of_invalid (d : Fin 4) {s : State} (h : s.dsk.bufValid = false) :
    ∃ bytes : List Byte, (∀ m, s.drives[d].media = some m →
        bytes = m.readTrack s.cfg s.drives[d].cyl.toNat s.drives[d].side.toNat)
      ∧ trackBufferLoad d s = s.withDsk { s.dsk with
          buf := Mem.ofBytes 0 bytes
          bufPos := BitVec.ofNat 16 (s.dsk.bufPos.toNat % s.cfg.mfmTrackBytes)
          bufValid := true } := by
  refine ⟨_, fun m hm => ?_, if_neg (Bool.eq_false_iff.1 h)⟩
  rw [hm]

/-- A load changes at most the buffer, the head's position and the buffer's mark. -/
theorem trackBufferLoad_eq (d : Fin 4) (s : State) :
    ∃ buf pos valid, trackBufferLoad d s = s.withDsk { s.dsk with buf := buf, bufPos := pos, bufValid := valid } := by
  cases h : s.dsk.bufValid with
  | true => exact ⟨s.dsk.buf, s.dsk.bufPos, s.dsk.bufValid, trackBufferLoad_of_valid d h⟩
  | false =>
    obtain ⟨bytes, -, hload⟩ := trackBufferLoad_of_invalid d h
    exact ⟨_, _, _, hload⟩

/-! ### The flush -/

section
variable {s : State}

/-- With nothing to flush, or no ready drive, a flush makes the buffer invalid and no more (R288). -/
theorem diskWriteFlush_of_nothing (h : readyDrive s = none ∨ flushCount s = 0) :
    diskWriteFlush s = s.withDsk { s.dsk with bufValid := false } := by
  unfold diskWriteFlush
  split
  · rfl
  · rename_i d hd
    have hcount : flushCount s = 0 := h.resolve_left (by rw [hd]; exact fun he => nomatch he)
    rw [if_pos hcount]

variable {d : Fin 4} {m : Medium} (hready : readyDrive s = some d) (hmedia : s.drives[d].media = some m)
include hready hmedia

theorem diskWriteFlush_of_protected (h : m.writeProtected) : diskWriteFlush s = s.withDsk { s.dsk with bufValid := false } := by
  have hdrive : flushToDrive d s = s := by simp only [flushToDrive, hmedia, h, if_true]
  simp only [diskWriteFlush, hready, hdrive, ite_self]

variable (hopen : m.writeProtected = false) (hcount : flushCount s ≠ 0)
include hopen hcount

theorem diskWriteFlush_of_written {m' : Medium}
    (h : m.writeTrack s.cfg s.drives[d].cyl.toNat s.drives[d].side.toNat (flushBytes s (flushCount s)) = .ok m') :
    diskWriteFlush s
      = (s.withDrives (s.drives.set d { s.drives[d] with media := some m' })).withDsk { s.dsk with bufValid := false } := by
  have hdrive : flushToDrive d s = s.withDrives (s.drives.set d { s.drives[d] with media := some m' }) := by
    simp only [flushToDrive, hmedia, hopen, h]
    rfl
  simp only [diskWriteFlush, hready, if_neg hcount, hdrive]
  rfl

theorem diskWriteFlush_of_refused {x : MfmError}
    (h : m.writeTrack s.cfg s.drives[d].cyl.toNat s.drives[d].side.toNat (flushBytes s (flushCount s)) = .error x) :
    diskWriteFlush s = (s.withOut { s.out with mediaError := some x }).withDsk { s.dsk with bufValid := false } := by
  have hdrive : flushToDrive d s = s.withOut { s.out with mediaError := some x } := by
    simp only [flushToDrive, hmedia, hopen, h]
    rfl
  simp only [diskWriteFlush, hready, if_neg hcount, hdrive]
  rfl

end

/-! ### One word -/

/-- A word of a read transfer counted: with the last one the transfer is over (R285). -/
theorem diskCountDown_id {s : State} (h : s.dsk.active) :
    diskCountDown id s =
      let r := s.dsk.remaining - 1
      let t := s.withDsk { s.dsk with remaining := r, active := r != 0 }
      if r = 0 then raiseIrq irqDskblk s.cfg.irqDelayDskblk t else t := by
  by_cases hr : s.dsk.remaining - 1 = 0
  · have hactive : (s.dsk.remaining - 1 != 0) = false := by rw [hr]; rfl
    simp only [hactive, if_pos hr]
    exact if_pos hr
  · have hactive : (s.dsk.remaining - 1 != 0) = s.dsk.active := by rw [h]; exact bne_iff_ne.2 hr
    simp only [hactive, if_neg hr]
    exact if_neg hr

/-- A word of a write transfer counted: with the last one the track is flushed and the transfer is over (R288). -/
theorem diskCountDown_flush (s : State) :
    diskCountDown diskWriteFlush s =
      let g := s.withDsk { s.dsk with remaining := s.dsk.remaining - 1 }
      let f := diskWriteFlush g
      if s.dsk.remaining - 1 = 0 then
        raiseIrq irqDskblk s.cfg.irqDelayDskblk (f.withDsk { f.dsk with active := false })
      else g := by
  by_cases hr : s.dsk.remaining - 1 = 0
  · have hcfg : (diskWriteFlush (s.withDsk { s.dsk with remaining := s.dsk.remaining - 1 })).cfg = s.cfg := by
      rw [diskWriteFlush_touches]
      rfl
    simp only [if_pos hr, ← hcfg]
    exact if_pos hr
  · simp only [if_neg hr]
    exact if_neg hr

/-- The state after the head has passed a word: the head moved on, and a sync match told (R285, R286). -/
def passHeadWord (s : State) : State :=
  let s1 := s.withDsk { s.dsk with bufPos := diskAdvance s.cfg s.dsk.bufPos }
  if diskHeadWord s.dsk == s.dsk.sync then syncMatch s1 else s1

section
variable {s : State}

/-- Passing a word leaves chip memory, the pointer and the transfer as they are. -/
theorem passHeadWord_eq (s : State) :
    ∃ irq pos hold, passHeadWord s = (s.withIrq irq).withDsk { s.dsk with bufPos := pos, hold := hold } := by
  unfold passHeadWord
  dsimp only
  split
  · exact ⟨_, _, _, rfl⟩
  · exact ⟨s.irq, _, s.dsk.hold, rfl⟩

/-- Hunting for sync, the word is not stored (R285). -/
theorem diskReadWord_hunting (hws : s.wordSync) (hs : s.dsk.synced = false) :
    diskReadWord s = .next (grant .disk s.dsk.pt (diskHeadWord s.dsk) ((passHeadWord s).withDsk
      { (passHeadWord s).dsk with synced := diskHeadWord s.dsk == s.dsk.sync })) := by
  have hhunt : (s.wordSync && !s.dsk.synced) = true := by rw [hws, hs]; rfl
  exact if_pos hhunt

/-- A further sync word is not stored (R285). -/
theorem diskReadWord_resync (hws : s.wordSync) (hs : s.dsk.synced) (hhit : diskHeadWord s.dsk == s.dsk.sync) :
    diskReadWord s = .next (grant .disk s.dsk.pt (diskHeadWord s.dsk) (passHeadWord s)) := by
  have hhunt : ¬ (s.wordSync && !s.dsk.synced) = true := by simp [hs]
  have hresync : (s.wordSync && diskHeadWord s.dsk == s.dsk.sync) = true := by rw [hws, hhit]; rfl
  exact (if_neg hhunt).trans (if_pos hresync)

/-- Every other word goes to memory at the disk pointer, and with the last one the transfer is over (R285). -/
theorem diskReadWord_stores (h : s.wordSync = false ∨ s.dsk.synced ∧ (diskHeadWord s.dsk == s.dsk.sync) = false)
    (hactive : s.dsk.active) (hrange : dmaInRange s s.dsk.pt) (hfits : ptrFits s.dsk.pt 2) :
    diskReadWord s =
      let w := diskHeadWord s.dsk
      let r := s.dsk.remaining - 1
      let g := grant .disk s.dsk.pt w (((passHeadWord s).withMem (Mem.writeWord s.mem (dmaAddr s s.dsk.pt) w)).withDsk
        { (passHeadWord s).dsk with pt := s.dsk.pt + 2, remaining := r, active := r != 0 })
      .next (if r = 0 then raiseIrq irqDskblk s.cfg.irqDelayDskblk g else g) := by
  have hhunt : ¬ (s.wordSync && !s.dsk.synced) = true := by
    rcases h with h | ⟨h, -⟩ <;> simp [h]
  have hresync : ¬ (s.wordSync && diskHeadWord s.dsk == s.dsk.sync) = true := by
    rcases h with h | ⟨-, h⟩ <;> simp [h]
  have hread : diskReadWord s = andThen (memWrite (passHeadWord s) s.dsk.pt (diskHeadWord s.dsk)) fun s3 =>
      withPtrAdd s.dsk.pt 2 fun p =>
        .next (diskCountDown id (grant .disk s.dsk.pt (diskHeadWord s.dsk) (s3.withDsk { s3.dsk with pt := p }))) :=
    (if_neg hhunt).trans (if_neg hresync)
  obtain ⟨irq, pos, hold, hpass⟩ := passHeadWord_eq s
  have hrange' : dmaInRange (passHeadWord s) s.dsk.pt := by rw [hpass]; exact hrange
  rw [hread, memWrite_of_inRange hrange', andThen_next, withPtrAdd_of_fits hfits, diskCountDown_id] <;> rw [hpass]
  · rfl
  · exact hactive

/-- A word written to the disk goes from memory under the head (R288). -/
theorem diskWriteWord_of_fits (hrange : dmaInRange s s.dsk.pt) (hfits : ptrFits s.dsk.pt 2) :
    diskWriteWord s =
      let w := Mem.readWord s.mem (dmaAddr s s.dsk.pt)
      let r := s.dsk.remaining - 1
      let g := grant .disk s.dsk.pt w
        (s.withDsk { diskPutWord s.cfg w s.dsk with pt := s.dsk.pt + 2, remaining := r })
      let f := diskWriteFlush g
      .next (if r = 0 then raiseIrq irqDskblk s.cfg.irqDelayDskblk (f.withDsk { f.dsk with active := false }) else g) := by
  rw [diskWriteWord, withMemRead_of_inRange hrange, withPtrAdd_of_fits hfits, diskCountDown_flush]
  rfl

end

/-! ### The rows -/

theorem exec_diskRow (k : Fin 3) (s : State) : exec (diskRow k) s = diskTurnAt s := by
  fin_cases k <;> rfl

/-- Without disk DMA or a transfer the turn passes (R127). -/
theorem diskTurnAt_idle {s : State} (h : s.dmaOn 4 = false ∨ s.dsk.active = false) : diskTurnAt s = .next s := by
  refine if_neg fun hwants => ?_
  obtain ⟨hon, hactive⟩ := Bool.and_eq_true_iff.1 hwants
  rcases h with h | h
  · exact Bool.false_ne_true (h.symm.trans hon)
  · exact Bool.false_ne_true (h.symm.trans hactive)

section
variable {s : State} (hon : s.dmaOn 4) (hactive : s.dsk.active)
include hon hactive

theorem diskTurnAt_wants : diskTurnAt s = diskSlot s := if_pos (Bool.and_eq_true_iff.2 ⟨hon, hactive⟩)

theorem diskTurnAt_notReady (h : readyDrive s = none) : diskTurnAt s = .next (grant .disk s.dsk.pt 0 s) := by
  rw [diskTurnAt_wants hon hactive, diskSlot, h]

variable {d : Fin 4} (hready : readyDrive s = some d)
include hready

theorem diskTurnAt_reading (h : s.dsk.len.getLsbD 14 = false) : diskTurnAt s = diskReadWord (trackBufferLoad d s) := by
  have hread : ¬ (trackBufferLoad d s).dsk.writing = true := by
    obtain ⟨buf, pos, valid, hload⟩ := trackBufferLoad_eq d s
    rw [hload]
    exact Bool.eq_false_iff.1 h
  rw [diskTurnAt_wants hon hactive, diskSlot, hready]
  exact if_neg hread

theorem diskTurnAt_writing (h : s.dsk.len.getLsbD 14) : diskTurnAt s = diskWriteWord (trackBufferLoad d s) := by
  have hwrite : (trackBufferLoad d s).dsk.writing = true := by
    obtain ⟨buf, pos, valid, hload⟩ := trackBufferLoad_eq d s
    rw [hload]
    exact h
  rw [diskTurnAt_wants hon hactive, diskSlot, hready]
  exact if_pos hwrite

end

/-- Settles O40: the row is the disk's turn, which waits, reads a word or writes one; the load and the flush have their own
rules. -/
theorem diskRowMovesOneWord : Obligations.DiskRowMovesOneWord := by
  unfold Obligations.DiskRowMovesOneWord
  intro k s
  rw [exec_diskRow]
  refine ⟨diskTurnAt_idle, diskTurnAt_notReady, fun d => ⟨trackBufferLoad_of_valid d, fun hinvalid => ?_⟩, ⟨?_, ?_⟩, ?_⟩
  · obtain ⟨bytes, hbytes, hload⟩ := trackBufferLoad_of_invalid d hinvalid
    rw [hload]
    refine ⟨rfl, fun m hm b => ?_⟩
    rw [← hbytes m hm, ← Mem.read_ofBytes bytes 0 b, Nat.zero_add]
    rfl
  · exact diskWriteFlush_of_nothing
  · intro d m hready hmedia
    exact ⟨diskWriteFlush_of_protected hready hmedia, fun hopen hcount =>
      ⟨fun _ => diskWriteFlush_of_written hready hmedia hopen hcount,
        fun _ => diskWriteFlush_of_refused hready hmedia hopen hcount⟩⟩
  · intro d hon hactive hready u pos p
    have hreading := diskTurnAt_reading hon hactive hready
    have hwriting := diskTurnAt_writing hon hactive hready
    obtain ⟨buf, bufPos, valid, hload⟩ := trackBufferLoad_eq d s
    -- The loaded state and the state after the head has passed stay names: the cases compare states built on them.
    have hu : u = trackBufferLoad d s := rfl
    clear_value u
    rw [← hu] at hreading hwriting
    rw [hload] at hu
    refine ⟨?_, fun hwrite hrange hfits => ?_⟩
    · intro hread w hit m
      have hm : m = passHeadWord u := by subst hu; rfl
      clear_value m
      subst hu
      rw [hreading hread]
      refine ⟨fun hws hs => ?_, fun hws hs hhit => ?_, fun hstore hrange hfits hwf => ?_⟩
      · refine Eq.trans (diskReadWord_hunting (by exact hws) (by exact hs)) ?_
        rw [← hm]
        rfl
      · refine Eq.trans (diskReadWord_resync (by exact hws) (by exact hs) (by exact hhit)) ?_
        rw [← hm]
        rfl
      · refine ⟨_, Mem.readWord_writeWord s.mem (dmaAddr s s.dsk.pt) w hwf, fun b => Mem.read_writeWord_ne _ _ _ _,
          Eq.trans (diskReadWord_stores (by exact hstore) (by exact hactive) (by exact hrange) (by exact hfits)) ?_⟩
        rw [← hm]
        rfl
    · subst hu
      rw [hwriting hwrite]
      exact diskWriteWord_of_fits hrange hfits

end Sys2Proof.Machine
end

section
/-! The drive mechanism (R282, R291 to R296): the control rule drive by drive, a drive's own tick, the status lines, and the drive
that is ready. -/

namespace Sys2Proof.Machine

/-! ### The control rule -/

theorem Drive.motorCommand_eq (k : Config) (on : Bool) (v : Drive) :
    v.motorCommand k on = { v with
      motor := if on != v.motor then on else v.motor
      spin := if on != v.motor then k.motorDelayTicks else v.spin } := by
  unfold Drive.motorCommand
  split
  · rename_i hsame
    simp only [hsame, bne_self_eq_false]
    rfl
  · rename_i hother
    simp only [bne_iff_ne.2 hother]
    rfl

theorem Drive.headStep_eq (k : Config) (v : Drive) : v.headStep k = { v with cyl := (v.headStep k).cyl } := by
  unfold Drive.headStep
  split <;> rfl

/-- The head steps within 0 .. `MAX_CYLINDER` (R293). -/
theorem Drive.headStep_cyl (k : Config) (v : Drive) :
    (v.headStep k).cyl.toNat
      = if v.dir then v.cyl.toNat - 1 else min (v.cyl.toNat + 1) k.maxCylinder.toNat := by
  unfold Drive.headStep
  split
  · dsimp only
    split <;> bv_omega
  · dsimp only
    split <;> bv_omega

section
variable {k : Config} {old new : Byte} {sel : Nat} {v : Drive}

/-- The lines of a drive that is not selected do not reach it (R291). -/
theorem Drive.control_of_unselected (h : new.getLsbD sel = true) : v.control k old new sel = v := by
  simp only [Drive.control, h]
  rfl

/-- Selection latches the motor line; a selected drive takes side and direction, and then steps on a falling step line (R291 to
R293). -/
theorem Drive.control_of_selected (h : new.getLsbD sel = false) :
    v.control k old new sel =
      let on := !new.getLsbD 7
      let command := old.getLsbD sel && on != v.motor
      let u : Drive := { v with
        motor := if command then on else v.motor
        spin := if command then k.motorDelayTicks else v.spin
        side := !new.getLsbD 2
        dir := new.getLsbD 1 }
      if old.getLsbD 0 && !new.getLsbD 0 then u.headStep k else u := by
  simp only [Drive.control, Drive.motorCommand_eq, h]
  cases old.getLsbD sel <;> rfl

end

/-- A drive after its lines change, but for its head (R291, R292). -/
theorem Drive.control_eq (k : Config) (old new : Byte) (sel : Nat) (v : Drive) :
    v.control k old new sel =
      let on := !new.getLsbD 7
      let command := !new.getLsbD sel && old.getLsbD sel && on != v.motor
      { v with
        motor := if command then on else v.motor
        spin := if command then k.motorDelayTicks else v.spin
        side := if !new.getLsbD sel then !new.getLsbD 2 else v.side
        dir := if !new.getLsbD sel then new.getLsbD 1 else v.dir
        cyl := (v.control k old new sel).cyl } := by
  cases hsel : new.getLsbD sel with
  | true =>
    rw [Drive.control_of_unselected hsel]
    rfl
  | false =>
    rw [Drive.control_of_selected hsel]
    dsimp only
    split
    · rw [Drive.headStep_eq]
      rfl
    · rfl

/-- A falling step line moves the head of a selected drive by one cylinder, within its range (R293). -/
theorem Drive.control_cyl (k : Config) (old new : Byte) (sel : Nat) (v : Drive) :
    (v.control k old new sel).cyl.toNat =
      if !new.getLsbD sel && old.getLsbD 0 && !new.getLsbD 0 then
        if new.getLsbD 1 then v.cyl.toNat - 1 else min (v.cyl.toNat + 1) k.maxCylinder.toNat
      else v.cyl.toNat := by
  cases hsel : new.getLsbD sel with
  | true =>
    rw [Drive.control_of_unselected hsel]
    rfl
  | false =>
    rw [Drive.control_of_selected hsel]
    simp only [Bool.not_false, Bool.true_and]
    split
    · exact Drive.headStep_cyl _ _
    · rfl

/-- What leaves the buffer valid: no step, no change of selection, no change of side (R284, R291). -/
theorem Drive.control_of_not_invalidates {old new : Byte} {sel : Nat} {v : Drive}
    (h : v.controlInvalidates old new sel = false) (k : Config) :
    (!new.getLsbD sel && old.getLsbD 0 && !new.getLsbD 0) = false ∧ old.getLsbD sel = new.getLsbD sel
      ∧ (v.control k old new sel).side = v.side := by
  obtain ⟨hkeep, hsame⟩ := Bool.or_eq_false_iff.1 h
  have hsel : old.getLsbD sel = new.getLsbD sel := (Bool.not_inj (bne_eq_false_iff_eq.1 hsame)).symm
  rw [Drive.control_eq]
  cases hnew : new.getLsbD sel with
  | true => exact ⟨rfl, hsel.trans hnew, rfl⟩
  | false =>
    simp only [hnew, Bool.not_false, Bool.true_and, Bool.or_eq_false_iff, bne_eq_false_iff_eq] at hkeep
    exact ⟨hkeep.2, hsel.trans hnew, hkeep.1.symm⟩

theorem driveControl_drive (old new : Byte) (s : State) (d : Fin 4) :
    (driveControl old new s).drives[d]
      = if d.val < s.cfg.numDrives then s.drives[d].control s.cfg old new (3 + d.val) else s.drives[d] := by
  simp [driveControl]

theorem mem_driveIds (d : Fin 4) : d ∈ driveIds := by
  fin_cases d <;> decide

/-- A buffer that stays valid was so, and no drive's change invalidates it (R284, R291). -/
theorem not_invalidates_of_bufValid {old new : Byte} {s : State} (h : (driveControl old new s).dsk.bufValid) {d : Fin 4}
    (hd : d.val < s.cfg.numDrives) : s.drives[d].controlInvalidates old new (3 + d.val) = false := by
  have hvalid : (s.dsk.bufValid && !driveIds.any fun d =>
      decide (d.val < s.cfg.numDrives) && s.drives[d].controlInvalidates old new (3 + d.val)) = true := h
  simp only [Bool.and_eq_true, Bool.not_eq_true', List.any_eq_false] at hvalid
  simpa [hd] using hvalid.2 d (mem_driveIds d)

/-! ### A drive's own tick -/

theorem Drive.spinDown_eq (v : Drive) : v.spinDown = { v with spin := if v.spin = 0 then 0 else v.spin - 1 } := by
  unfold Drive.spinDown
  split
  · rename_i h
    rw [← h]
  · rfl

/-- The countdown reaches 0 from 1. -/
theorem sub_one_eq_zero_iff (x : Long) : x - 1 = 0 ↔ x = 1 := by
  bv_omega

/-- The motor delay counts down, and a turning medium's index countdown runs (R295). -/
theorem Drive.tick_eq (k : Config) (v : Drive) :
    v.tick k =
      let spin := if v.spin = 0 then 0 else v.spin - 1
      { v with
        spin := spin
        index := if v.motor ∨ spin ≠ 0 then (if v.index = 1 then k.revolutionTicks else v.index - 1) else v.index } := by
  simp only [Drive.tick, Drive.turning, Drive.spinDown_eq, Bool.or_eq_true, bne_iff_ne, sub_one_eq_zero_iff]
  generalize (if v.spin = 0 then 0 else v.spin - 1) = spin
  by_cases hturn : v.motor ∨ spin ≠ 0
  · simp only [if_pos hturn]
  · simp only [if_neg hturn]

/-- The countdown of a turning drive ends in this tick (R292, R295). -/
theorem Drive.indexDue_iff (v : Drive) : v.indexDue = true ↔ (v.motor ∨ 1 < v.spin.toNat) ∧ v.index = 1 := by
  have hspin : (if v.spin = 0 then 0 else v.spin - 1) ≠ 0 ↔ 1 < v.spin.toNat := by
    split <;> bv_omega
  simp only [Drive.indexDue, Drive.turning, Drive.spinDown_eq, Bool.and_eq_true, Bool.or_eq_true, bne_iff_ne, beq_iff_eq,
    sub_one_eq_zero_iff, hspin]

/-! ### Selection and the ready drive -/

theorem driveSelected_iff (s : State) (d : Fin 4) :
    driveSelected s d ↔ d.val < s.cfg.numDrives ∧ (driveLines s).getLsbD (3 + d.val) = false := by
  simp [driveSelected]

/-- Drive `d` is selected, has a medium and is up to speed: it could be the ready drive (R282). -/
def Ready (s : State) (d : Fin 4) : Prop :=
  driveSelected s d ∧ s.drives[d].media ≠ none ∧ s.drives[d].motor ∧ s.drives[d].spin = 0

theorem ready_iff (s : State) (d : Fin 4) :
    (driveSelected s d && s.drives[d].media.isSome && s.drives[d].upToSpeed) = true ↔ Ready s d := by
  simp [Ready, Drive.upToSpeed, Option.isSome_iff_ne_none, and_assoc]

theorem readyDrive_eq_none_iff (s : State) : readyDrive s = none ↔ ∀ j : Fin 4, ¬ Ready s j := by
  simp only [readyDrive, List.find?_eq_none, ready_iff]
  exact ⟨fun h j => h j (mem_driveIds j), fun h j _ => h j⟩

/-- The lowest-numbered drive that passes a test. -/
theorem find_driveIds_eq_some_iff (p : Fin 4 → Bool) (d : Fin 4) :
    driveIds.find? p = some d ↔ p d ∧ ∀ j : Fin 4, j < d → ¬ p j := by
  have hids : driveIds = List.finRange 4 := by decide
  rw [hids, List.find?_eq_some_iff_getElem]
  refine and_congr_right fun _ => ⟨?_, fun h => ⟨d, by simp, by simp, fun j hj => ?_⟩⟩
  · rintro ⟨i, hi, rfl, hbefore⟩ j hj
    simpa using hbefore j (by simpa using Fin.lt_def.1 hj)
  · simpa using h ⟨j, by omega⟩ hj

theorem readyDrive_eq_some_iff (s : State) (d : Fin 4) :
    readyDrive s = some d ↔ Ready s d ∧ ∀ j : Fin 4, j < d → ¬ Ready s j := by
  simp only [readyDrive, find_driveIds_eq_some_iff, ready_iff]

/-! ### Status lines -/

/-- The test of a status line on the selected drives. -/
theorem any_selected_iff (s : State) (p : Drive → Bool) :
    (driveIds.any fun d => driveSelected s d && p s.drives[d]) = true ↔ ∃ d : Fin 4, driveSelected s d ∧ p s.drives[d] := by
  simp only [List.any_eq_true, Bool.and_eq_true]
  exact ⟨fun ⟨d, _, h⟩ => ⟨d, h⟩, fun ⟨d, h⟩ => ⟨d, mem_driveIds d, h⟩⟩

theorem Drive.protectedOrEmpty_iff (v : Drive) : v.protectedOrEmpty = true ↔ ∀ m, v.media = some m → m.writeProtected := by
  unfold Drive.protectedOrEmpty
  cases v.media <;> simp

/-- A status line reads 0 exactly when a selected drive has its condition (R296). -/
theorem driveStatus_line (s : State) :
    ((driveStatus s).getLsbD 5 = false ↔ ∃ d : Fin 4, driveSelected s d ∧ s.drives[d].upToSpeed)
      ∧ ((driveStatus s).getLsbD 4 = false ↔ ∃ d : Fin 4, driveSelected s d ∧ s.drives[d].cyl == 0)
      ∧ ((driveStatus s).getLsbD 3 = false ↔ ∃ d : Fin 4, driveSelected s d ∧ s.drives[d].protectedOrEmpty)
      ∧ ((driveStatus s).getLsbD 2 = false ↔ ∃ d : Fin 4, driveSelected s d ∧ s.drives[d].media.isNone) := by
  simp only [driveStatus, getLsbD_setBit, Nat.reduceLT, Nat.reduceEqDiff, if_true, if_false, Bool.not_eq_false']
  exact ⟨any_selected_iff s _, any_selected_iff s fun v => v.cyl == 0, any_selected_iff s _,
    any_selected_iff s fun v => v.media.isNone⟩

/-! ### Ports -/

/-- A pin is the data bit of an output and else the input (R354). -/
theorem getLsbD_pinsOf (pr ddr ext : Byte) (b : Fin 8) :
    (pinsOf pr ddr ext).getLsbD b = if ddr.getLsbD b then pr.getLsbD b else ext.getLsbD b := by
  have hb := b.isLt
  simp only [pinsOf, BitVec.getLsbD_or, BitVec.getLsbD_and, BitVec.getLsbD_not, hb, decide_true, Bool.true_and]
  cases ddr.getLsbD b <;> simp

theorem getLsbD_undriven (b : Fin 8) : (0xFF : Byte).getLsbD b = true := by
  fin_cases b <;> rfl

/-- Port A of CIA A has the drives' status lines as inputs, and no other port is driven from outside (R296, R354). -/
theorem getLsbD_portAExt (s : State) (i : CiaId) (b : Fin 8) :
    (portAExt s i).getLsbD b = if i = .a then (driveStatus s).getLsbD b else true := by
  cases i with
  | a => rfl
  | b => exact getLsbD_undriven b

/-- A write that leaves the pins of CIA B's port B alone applies no drive rule (R355). -/
theorem setCiaBLines_of_same {c : Cia} {s : State} (h : driveLines (s.withCiaB c) = driveLines s) :
    setCiaBLines c s = s.withCiaB c := if_pos h

/-- A read of a port gives its pins and changes nothing but the answer (R352, R354). -/
theorem hostCall_readPort (i : CiaId) (s : State) :
    hostCall (.ciaRead i 0) s
        = .next ((s.withOut StepOut.empty).replied ((portAIn (s.withOut StepOut.empty) i).setWidth 32))
      ∧ hostCall (.ciaRead i 1) s
        = .next ((s.withOut StepOut.empty).replied ((portBIn (s.withOut StepOut.empty) i).setWidth 32)) := ⟨rfl, rfl⟩

/-! ### Index pulses -/

/-- An index countdown ends in the next tick of a selected, turning drive (R292, R295). -/
def IndexPulse (s : State) : Prop :=
  ∃ d : Fin 4, driveSelected s d ∧ (s.drives[d].motor ∨ 1 < s.drives[d].spin.toNat) ∧ s.drives[d].index = 1

/-- The drive numbered `d` after the drives' own ticks (R28, R295). -/
def ticked (s : State) (d : Fin 4) : Drive := if d.val < s.cfg.numDrives then s.drives[d].tick s.cfg else s.drives[d]

theorem indexPulse_iff (s : State) :
    (driveIds.any fun d => driveSelected s d && s.drives[d].indexDue) = true ↔ IndexPulse s := by
  rw [any_selected_iff]
  simp only [Drive.indexDue_iff, IndexPulse]

/-- A pulse on the flag pin sets flag 4 and raises the line through the mask (R357, R358). -/
theorem Cia.icrSet_four (c : Cia) :
    c.icrSet 4 = { c with
      icrData := c.icrData ||| 0x10
      irq := c.irq || (c.icrData ||| 0x10) &&& c.icrMask != 0 } := by
  unfold Cia.icrSet Cia.raiseLine
  have hflag : setBit c.icrData 4 true = c.icrData ||| 0x10 := rfl
  simp only [hflag]
  split
  · rename_i hmask
    simp only [bne_iff_ne.2 hmask, Bool.or_true]
  · rename_i hmask
    simp only [not_not.1 hmask, bne_self_eq_false, Bool.or_false]

theorem driveTicks_drive (s : State) (d : Fin 4) : (driveTicks s).drives[d] = ticked s d := by
  unfold driveTicks ticked
  dsimp only
  split <;> simp

theorem driveTicks_ciaB_of_pulse {s : State} (h : IndexPulse s) : (driveTicks s).ciaB = s.ciaB.icrSet 4 := by
  unfold driveTicks
  dsimp only
  rw [if_pos ((indexPulse_iff s).2 h)]
  rfl

theorem driveTicks_ciaB_of_not_pulse {s : State} (h : ¬ IndexPulse s) : (driveTicks s).ciaB = s.ciaB := by
  unfold driveTicks
  dsimp only
  rw [if_neg fun hp => h ((indexPulse_iff s).1 hp)]
  rfl

end Sys2Proof.Machine
end

section
/-! What no slot of the bus changes: the parameters, the beam, the CIAs, and the drives but for their media (R122, R288). -/

namespace Sys2Proof.Machine

/-! ### The part of a state off the bus -/

/-- A drive without its medium: a flush changes the medium and nothing else of a drive (R288). -/
def Drive.bare (v : Drive) : Drive := { v with media := none }

/-- The parts of the state that the chain leaves alone (`chain_keepsOffBus`). -/
structure OffBus where
  cfg : Config
  beam : Beam
  ciaA : Cia
  ciaB : Cia
  ciaDiv : BitVec 4
  drives : Vector Drive 4

/-- The parameters, the beam, the CIAs with their divider, and the drives without their media. -/
def State.offBus (s : State) : OffBus := ⟨s.cfg, s.beam, s.ciaA, s.ciaB, s.ciaDiv, s.drives.map Drive.bare⟩

@[simp] theorem State.withIrq_offBus (s : State) (x : Irq) : (s.withIrq x).offBus = s.offBus := rfl
@[simp] theorem State.withBpl_offBus (s : State) (x : Bitplane) : (s.withBpl x).offBus = s.offBus := rfl
@[simp] theorem State.withSpr_offBus (s : State) (x : Vector Sprite 8) : (s.withSpr x).offBus = s.offBus := rfl
@[simp] theorem State.withCpuGrant_offBus (s : State) (x : Bool) : (s.withCpuGrant x).offBus = s.offBus := rfl
@[simp] theorem State.withDsk_offBus (s : State) (x : Disk) : (s.withDsk x).offBus = s.offBus := rfl
@[simp] theorem State.withOut_offBus (s : State) (x : StepOut) : (s.withOut x).offBus = s.offBus := rfl
@[simp] theorem grant_offBus (o : BusOwner) (a : Long) (v : Word) (s : State) : (grant o a v s).offBus = s.offBus := rfl
@[simp] theorem raiseIrq_offBus (b : Fin 14) (d : Byte) (s : State) : (raiseIrq b d s).offBus = s.offBus := rfl

theorem State.setMedia_offBus (s : State) (d : Fin 4) (m : Option Medium) :
    (s.withDrives (s.drives.set d { s.drives[d] with media := m })).offBus = s.offBus := by
  have hdrives : (s.drives.set d { s.drives[d] with media := m }).map Drive.bare = s.drives.map Drive.bare := by
    ext e he : 1
    simp only [Vector.getElem_map, Vector.getElem_set]
    split
    · rename_i hde
      subst hde
      rfl
    · rfl
  simp only [State.offBus, State.withDrives_cfg, State.withDrives_beam, State.withDrives_ciaA, State.withDrives_ciaB,
    State.withDrives_ciaDiv, State.withDrives_drives, hdrives]

/-- The operation leaves the part off the bus as it is. -/
def KeepsOffBus (f : State → Result) : Prop := ∀ s, Ends True (fun t => t.offBus = s.offBus) (f s)

section
variable {f g : State → Result}

theorem KeepsOffBus.of_eq (hf : KeepsOffBus f) {s t : State} (h : t.offBus = s.offBus) :
    Ends True (fun u => u.offBus = s.offBus) (f t) :=
  (hf t).mono id fun _ hu => hu.trans h

theorem KeepsOffBus.of_next (hf : ∀ s t, f s = .next t → t.offBus = s.offBus) : KeepsOffBus f :=
  fun s => .of_eq_next (hf s)

theorem KeepsOffBus.andThen (hf : KeepsOffBus f) (hg : KeepsOffBus g) : KeepsOffBus fun s => andThen (f s) g :=
  fun s => (hf s).andThen fun _ ht => hg.of_eq ht

theorem KeepsOffBus.ifUnclaimed (hf : KeepsOffBus f) : KeepsOffBus (ifUnclaimed f) := by
  intro s
  unfold Machine.ifUnclaimed
  split
  · exact .next rfl
  · exact hf s

end

/-! ### Disk -/

theorem diskWriteFlush_offBus (s : State) : (diskWriteFlush s).offBus = s.offBus := by
  unfold diskWriteFlush
  dsimp only
  split
  · rfl
  · split
    · rfl
    · unfold flushToDrive
      dsimp only
      split
      · rfl
      · split
        · rfl
        · split
          · exact s.setMedia_offBus _ _
          · rfl

theorem writeDsklen_offBus (v : Word) (s : State) : (writeDsklen v s).offBus = s.offBus := by
  unfold writeDsklen
  dsimp only
  split
  · rfl
  · split
    · split <;> rfl
    · split
      · rfl
      · simp only [State.withDsk_offBus]
        split
        · exact diskWriteFlush_offBus s
        · rfl

theorem diskWriteWord_keepsOffBus : KeepsOffBus diskWriteWord := by
  refine fun s => .withMemRead fun w => .withPtrAdd fun p => .next ?_
  unfold diskCountDown
  dsimp only
  split
  · simp only [raiseIrq_offBus, State.withDsk_offBus, diskWriteFlush_offBus, grant_offBus]
  · rfl

theorem diskTurnAt_keepsOffBus : KeepsOffBus diskTurnAt := by
  intro s
  unfold diskTurnAt diskSlot
  split
  · split
    · exact .next rfl
    · rename_i d _
      have hload : (trackBufferLoad d s).offBus = s.offBus := by
        rw [trackBufferLoad_touches]
        rfl
      have hread : KeepsOffBus diskReadWord := .of_next fun s t ht => by
        rw [diskReadWord_touches s t ht]
        rfl
      dsimp only
      split
      · exact diskWriteWord_keepsOffBus.of_eq hload
      · exact hread.of_eq hload
  · exact .next rfl

/-! ### Registers and the copper -/

theorem regWriteReg_keepsOffBus (r : Reg) (v : Word) : KeepsOffBus (regWriteReg r v) := by
  intro s
  have hblitter : ∀ f, Ends True (fun t => t.offBus = s.offBus) (writeBlitter f s) := fun f => by
    unfold writeBlitter
    split
    · exact .refused _
    · exact .next rfl
  cases r with
  | dsklen => exact .next (writeDsklen_offBus v s)
  | bltsize =>
    simp only [regWriteReg, writeBltsize]
    split
    · exact .next rfl
    · exact .refused _
  | bltcon0 | bltcon1 | bltafwm | bltalwm | bltpth | bltptl | bltmod | bltcdat | bltbdat | bltadat =>
    simp only [regWriteReg]
    exact hblitter _
  | _ => exact .next rfl

theorem execMove_keepsOffBus (off data : Word) : KeepsOffBus (execMove off data) := by
  intro s
  unfold execMove regWrite
  split
  · exact .next rfl
  · split
    · exact .next rfl
    · split
      · exact regWriteReg_keepsOffBus _ data s
      · exact .next rfl

theorem execWait_keepsOffBus (vp hp : Byte) (bfd : Bool) (ve : BitVec 7) (he : Byte) :
    KeepsOffBus (execWait vp hp bfd ve he) := by
  intro s
  unfold execWait
  split
  · refine .next ?_
    split <;> rfl
  all_goals exact .next rfl

theorem execSkip_keepsOffBus (vp hp : Byte) (bfd : Bool) (ve : BitVec 7) (he : Byte) :
    KeepsOffBus (execSkip vp hp bfd ve he) := by
  intro s
  unfold execSkip
  split <;> exact .next rfl

theorem exec_decodeCopper_keepsOffBus (w1 w2 : Word) : KeepsOffBus (exec (decodeCopper w1 w2)) := by
  intro s
  unfold decodeCopper
  split
  · exact execMove_keepsOffBus _ _ s
  · split
    · exact execWait_keepsOffBus _ _ _ _ _ s
    · exact execSkip_keepsOffBus _ _ _ _ _ s

theorem copperFetch_keepsOffBus : KeepsOffBus copperFetch := by
  intro s
  unfold copperFetch
  split
  · refine .withMemRead fun w => .withPtrAdd fun p => ?_
    dsimp only
    split
    · exact (exec_decodeCopper_keepsOffBus _ _).of_eq rfl
    · exact .next rfl
  · exact .next rfl

theorem copperTurn_keepsOffBus : KeepsOffBus copperTurn := by
  intro s
  unfold copperTurn
  split
  · split
    case h_2 => exact copperFetch_keepsOffBus.of_eq rfl
    case h_3 => exact copperFetch_keepsOffBus s
    case h_4 =>
      split
      · exact execSkip_keepsOffBus _ _ _ _ _ s
      · exact execWait_keepsOffBus _ _ _ _ _ s
    case h_5 => exact execWait_keepsOffBus _ _ _ _ _ s
    case h_6 => exact execSkip_keepsOffBus _ _ _ _ _ s
    case h_1 | h_7 | h_8 => exact .next rfl
  · exact .next rfl

/-! ### The chain -/

theorem KeepsOffBus.of_blitterTouches {f : State → Result} (hf : ∀ s t, f s = .next t → BlitterTouches s t) :
    KeepsOffBus f :=
  .of_next fun s t ht => by
    rw [hf s t ht]
    rfl

theorem blitterTurn_keepsOffBus : KeepsOffBus blitterTurn := by
  have harea : ∀ m, KeepsOffBus (areaTurn m) := fun m => .of_blitterTouches (areaTurn_touches m)
  have hline : ∀ m, KeepsOffBus (lineTurn m) := fun m => .of_blitterTouches (lineTurn_touches m)
  intro s
  unfold blitterTurn
  split
  · split
    case h_1 | h_2 => exact .next rfl
    case h_3 =>
      unfold decodeBlitMode
      split
      · exact hline _ s
      · split
        · exact harea _ s
        · split <;> exact harea _ s
    case h_4 => exact KeepsOffBus.of_blitterTouches finalTurn_touches s
  · exact .next rfl

theorem fixedTurn_keepsOffBus (o : BusOwner) (hc : o ≠ .copper) (hb : o ≠ .blitter) : KeepsOffBus (fixedTurn o) := by
  have haudio : ∀ n, KeepsOffBus (audioTurnAt n) := fun n => .of_next fun s t ht => by
    rw [audioTurnAt_touches n s t ht]
    rfl
  have hsprite : ∀ n k, KeepsOffBus (spriteTurnAt n k) := fun n k => .of_next fun s t ht => by
    rw [spriteTurnAt_touches n k s t ht]
    rfl
  intro s
  unfold fixedTurn
  split
  · rename_i i hslot
    obtain rfl := owner_of_slotOf hslot
    cases i with
    | move | wait | skip => exact absurd rfl hc
    | bltArea | bltFillInclusive | bltFillExclusive | bltLine => exact absurd rfl hb
    | slotRefresh0 | slotRefresh1 | slotRefresh2 | slotRefresh3 => exact .next rfl
    | slotDisk0 | slotDisk1 | slotDisk2 => exact diskTurnAt_keepsOffBus s
    | slotAud0 | slotAud1 | slotAud2 | slotAud3 => exact haudio _ s
    | _ => exact hsprite _ _ s
  · exact .next rfl

/-- No turn of the chain reaches what is off the bus (R122). -/
theorem chain_keepsOffBus : KeepsOffBus chain := by
  have hrefresh := fixedTurn_keepsOffBus .refresh (by decide) (by decide)
  have hdisk := (fixedTurn_keepsOffBus .disk (by decide) (by decide)).ifUnclaimed
  have haudio := (fixedTurn_keepsOffBus .audio (by decide) (by decide)).ifUnclaimed
  have hsprite := (fixedTurn_keepsOffBus .sprite (by decide) (by decide)).ifUnclaimed
  have hbitplane : KeepsOffBus bitplaneTurn := .of_next fun s t ht => by
    rw [bitplaneTurn_touches s t ht]
    rfl
  have hupper : KeepsOffBus upperChain :=
    hrefresh.andThen (hdisk.andThen (haudio.andThen (hbitplane.ifUnclaimed.andThen hsprite)))
  exact hupper.andThen (copperTurn_keepsOffBus.ifUnclaimed.andThen blitterTurn_keepsOffBus.ifUnclaimed)

/-! ### The tick -/

theorem phase2_keepsOffBus (wants : Bool) : KeepsOffBus (phase2 wants) := by
  intro s
  unfold phase2
  split
  · have hentry : (housekeeping s).offBus = s.offBus := by
      rw [housekeeping_touches]
      rfl
    refine (chain_keepsOffBus.of_eq hentry).andThen fun t ht => .next (Eq.trans ?_ ht)
    rw [freeCycle_touches]
    rfl
  · exact .next rfl

/-- A tick leaves the CIAs and the drives as phase 6 makes them, from a state whose part off the bus is the one that the tick
started with (R120, R351). -/
theorem tick_phase6 {wants : Bool} {s t : State} (h : tick wants s = .next t) :
    ∃ u : State, u.offBus = s.offBus ∧ t.ciaA = (ciaAndDriveTick u).ciaA ∧ t.ciaB = (ciaAndDriveTick u).ciaB
      ∧ t.ciaDiv = (ciaAndDriveTick u).ciaDiv ∧ t.drives = (ciaAndDriveTick u).drives := by
  obtain ⟨v, hv, hvt⟩ := (andThen_eq_next_iff _ _ _).1 h
  have hstart : (phase1 (tickStart s)).offBus = s.offBus := by
    rw [phase1, bitplaneShiftAndLatch_touches, spriteCompareAndShift_touches]
    simp [tickStart]
  have hkeep : v.offBus = s.offBus := (hv ▸ (phase2_keepsOffBus wants).of_eq hstart).of_next
  refine ⟨updateIpl (phase4 (pixelOutput (spritePixels (tickStart s)) (playfield (tickStart s)) v)), ?_, ?_⟩
  · rw [updateIpl, phase4, dskbytHoldCountdown_touches, pixelOutput_touches]
    simpa using hkeep
  · rw [← Host.Outcome.next.inj hvt]
    unfold tickRest
    generalize ciaAndDriveTick _ = w
    rw [beamAdvance_touches, audioMixIfDue_touches]
    simp [tickEnd]

end Sys2Proof.Machine
end

section
/-! The drives over a tick and under the host's port accesses (R295, R354, R355, R358). -/

namespace Sys2Proof.Machine

/-! ### What phase 6 does to the CIA that the drives are on -/

/-- The part of a CIA that the drives share with it: the pins of port B, and the flag of the index pulse (R355, R358). -/
def Cia.driveSide (c : Cia) : Byte × Byte × Bool := (c.prb, c.ddrb, c.icrData.getLsbD 4)

theorem Cia.icrSet_driveSide (c : Cia) {b : Nat} (hb : b ≠ 4) : (c.icrSet b).driveSide = c.driveSide := by
  have hflag : (setBit c.icrData b true).getLsbD 4 = c.icrData.getLsbD 4 := by
    rw [getLsbD_setBit _ _ _ _ (by decide), if_neg hb.symm]
  unfold Cia.icrSet Cia.raiseLine
  split <;> simp only [Cia.driveSide, hflag]

theorem Cia.todPulse_driveSide (c : Cia) : c.todPulse.driveSide = c.driveSide := by
  unfold Cia.todPulse
  dsimp only
  split
  · exact Cia.icrSet_driveSide _ (by decide)
  · rfl

theorem Cia.timerTick_driveSide (c : Cia) : c.timerTick.driveSide = c.driveSide := by
  have hA : c.tickA.driveSide = c.driveSide := by
    unfold Cia.tickA
    dsimp only
    split
    · split
      · split <;> exact Cia.icrSet_driveSide { c with ta := c.taLatch } (by decide)
      · rfl
    · rfl
  have hB : ∀ (uf : Bool) (c : Cia), (c.tickB uf).driveSide = c.driveSide := fun uf c => by
    unfold Cia.tickB
    dsimp only
    split
    · split
      · split <;> exact Cia.icrSet_driveSide { c with tb := c.tbLatch } (by decide)
      · rfl
    · rfl
  rw [Cia.timerTick, hB, hA]

/-- The counters and timers before the drives' ticks leave their side of CIA B alone (R351). -/
theorem ciaDivide_todPulses_driveSide (s : State) : (ciaDivide (todPulses s)).ciaB.driveSide = s.ciaB.driveSide := by
  have htod : (todPulses s).ciaB.driveSide = s.ciaB.driveSide := by
    unfold todPulses
    dsimp only
    split
    · split <;> exact Cia.todPulse_driveSide _
    · rfl
  have hdiv : ∀ u : State, (ciaDivide u).ciaB.driveSide = u.ciaB.driveSide := fun u => by
    unfold ciaDivide
    split
    · exact Cia.timerTick_driveSide _
    · rfl
  rw [hdiv, htod]

/-! ### The drives' ticks see no medium -/

section
variable {s t : State} (hcfg : t.cfg = s.cfg) (hdrives : t.drives.map Drive.bare = s.drives.map Drive.bare)
include hdrives

theorem drive_eq_of_bare (d : Fin 4) : s.drives[d] = { t.drives[d] with media := s.drives[d].media } := by
  have hbare : t.drives[d].bare = s.drives[d].bare := by
    have := congrArg (fun v => v[d]) hdrives
    simpa using this
  exact congrArg (fun v : Drive => { v with media := s.drives[d].media }) hbare.symm

include hcfg

theorem ticked_of_bare (d : Fin 4) : { ticked t d with media := s.drives[d].media } = ticked s d := by
  have hdrive := drive_eq_of_bare hdrives d
  unfold ticked
  rw [hcfg]
  split
  · conv_rhs => rw [hdrive]
    simp only [Drive.tick_eq]
  · exact hdrive.symm

theorem indexPulse_of_bare (hlines : driveLines t = driveLines s) : IndexPulse t ↔ IndexPulse s := by
  have hdrive := drive_eq_of_bare hdrives
  have hsel : ∀ d, driveSelected t d = driveSelected s d := fun d => by rw [driveSelected, hcfg, hlines, ← driveSelected]
  refine exists_congr fun d => ?_
  rw [hsel, hdrive d]

end

/-! ### A tick -/

theorem driveLines_of_driveSide {s t : State} (h : t.ciaB.driveSide = s.ciaB.driveSide) : driveLines t = driveLines s := by
  simp only [Cia.driveSide, Prod.mk.injEq] at h
  obtain ⟨hprb, hddrb, -⟩ := h
  rw [driveLines, hprb, hddrb, ← driveLines]

/-- The index flag after the drives' ticks is set by a pulse and else stays (R358). -/
theorem driveTicks_indexFlag (s : State) :
    (driveTicks s).ciaB.icrData.getLsbD 4 ↔ s.ciaB.icrData.getLsbD 4 ∨ IndexPulse s := by
  by_cases hp : IndexPulse s
  · rw [driveTicks_ciaB_of_pulse hp, Cia.icrSet_four]
    simp [hp]
  · rw [driveTicks_ciaB_of_not_pulse hp]
    simp [hp]

/-- A tick makes each drive's own tick and passes its index pulse on (R295, R358). -/
theorem tick_drives {wants : Bool} {s t : State} (h : tick wants s = .next t) :
    (t.ciaB.icrData.getLsbD 4 ↔ s.ciaB.icrData.getLsbD 4 ∨ IndexPulse s)
      ∧ ∀ d : Fin 4, { t.drives[d] with media := s.drives[d].media } = ticked s d := by
  obtain ⟨u, hoff, -, hciaB, -, hdrives⟩ := tick_phase6 h
  simp only [State.offBus, OffBus.mk.injEq] at hoff
  obtain ⟨hcfg, -, -, huB, -, hbare⟩ := hoff
  have hside := ciaDivide_todPulses_driveSide u
  rw [huB] at hside
  have hkept : (ciaDivide (todPulses u)).cfg = u.cfg ∧ (ciaDivide (todPulses u)).drives = u.drives := by
    rw [ciaDivide_touches, todPulses_touches]
    simp
  rw [ciaAndDriveTick, ciaIrqLines_touches] at hciaB hdrives
  simp only [State.withIrq_ciaB, State.withIrq_drives] at hciaB hdrives
  generalize ciaDivide (todPulses u) = w at hside hkept hciaB hdrives
  obtain ⟨hwcfg, hwdrives⟩ := hkept
  rw [← hwdrives] at hbare
  have hpulse := indexPulse_of_bare (hwcfg.trans hcfg) hbare (driveLines_of_driveSide hside)
  have hflag : w.ciaB.icrData.getLsbD 4 = s.ciaB.icrData.getLsbD 4 := congrArg (·.2.2) hside
  refine ⟨?_, fun d => ?_⟩
  · rw [hciaB, driveTicks_indexFlag, hpulse, hflag]
  · rw [hdrives, driveTicks_drive]
    exact ticked_of_bare (hwcfg.trans hcfg) hbare d

/-! ### The statement -/

/-- Settles O55: the control rule and the ticks drive by drive, the lines and the ports bit by bit; a tick's phases before the
drives' own change at most a medium. -/
theorem drivesFollowTheirControlLines : Obligations.DrivesFollowTheirControlLines := by
  unfold Obligations.DrivesFollowTheirControlLines
  refine ⟨fun old new s => ⟨rfl, fun d hd => ?_, fun d hd => ?_⟩, Drive.tick_eq, fun s => ?_, fun v s => ?_, fun d s => ?_,
    fun s => ?_, fun wants s t ht => tick_drives ht⟩
  · rw [driveControl_drive, if_neg (Nat.not_lt.2 hd)]
  · intro v u sel turnOn motorCmd stepped
    have hu : u = v.control s.cfg old new (3 + d.val) := (driveControl_drive old new s d).trans (if_pos hd)
    rw [hu]
    refine ⟨Drive.control_eq _ _ _ _ _, Drive.control_cyl _ _ _ _ _, fun hvalid => ?_⟩
    exact Drive.control_of_not_invalidates (not_invalidates_of_bufValid hvalid hd) s.cfg
  · simpa only [Drive.upToSpeed, Bool.and_eq_true, beq_iff_eq, Drive.protectedOrEmpty_iff, Option.isNone_iff_eq_none]
      using driveStatus_line s
  · intro e moved
    refine ⟨rfl, rfl, congrArg Host.Outcome.next (setCiaBLines_of_same (s := e) rfl),
      congrArg Host.Outcome.next (setCiaBLines_of_same (s := e) rfl), rfl, rfl, rfl, rfl, fun b => ?_, fun i => ?_⟩
    · exact (getLsbD_pinsOf _ _ _ b).trans (by rw [getLsbD_undriven])
    · obtain ⟨hportA, hportB⟩ := hostCall_readPort i s
      refine ⟨_, _, hportA, hportB, fun b => ⟨(getLsbD_pinsOf _ _ _ b).trans ?_, (getLsbD_pinsOf _ _ _ b).trans ?_⟩⟩
      · rw [getLsbD_portAExt]
        cases i <;> rfl
      · rw [getLsbD_undriven]
        cases i <;> rfl
  · exact ⟨driveSelected_iff s d, readyDrive_eq_some_iff s d, readyDrive_eq_none_iff s⟩
  · intro t flags
    refine ⟨driveTicks_touches s, driveTicks_drive s, fun hp => ?_, driveTicks_ciaB_of_not_pulse⟩
    exact (driveTicks_ciaB_of_pulse hp).trans (Cia.icrSet_four _)

end Sys2Proof.Machine
end

section
/-! The audio channels: their registers (R328), their stop (R327), the word of a slot (R324) and the period tick (R321,
R322). -/

namespace Sys2Proof.Machine

/-! ### Registers -/

theorem volumeOf_eq (v : Word) : volumeOf v = BitVec.ofNat 7 (min (v.toNat % 128) 64) := by
  have hlow : (v.extractLsb' 0 7).toNat = v.toNat % 128 := by simp [BitVec.extractLsb'_toNat]
  apply BitVec.eq_of_toNat_eq
  rw [BitVec.toNat_ofNat, ← hlow]
  unfold volumeOf
  split <;> bv_omega

/-- Settles O21: each clause is the register's own rule, the clamp of the volume by `volumeOf_eq`. -/
theorem audioRegisterWritesStoreTheirElement : Obligations.AudioRegisterWritesStoreTheirElement := by
  unfold Obligations.AudioRegisterWritesStoreTheirElement
  intro n v s
  rw [← volumeOf_eq]
  exact ⟨rfl, rfl, rfl, rfl, rfl, rfl, by simp [regValue]⟩

/-! ### The enable -/

/-- A channel whose enable is off stops, unless it is inactive already (R327). -/
theorem audioStopDisabled_chan (s : State) (n : Fin 4) :
    (audioStopDisabled s).aud[n] = if s.dmaOn n.val = false ∧ s.aud[n].st ≠ .inactive then s.aud[n].stop
      else s.aud[n] := by
  cases hon : s.dmaOn n.val <;> simp [audioStopDisabled, audOn, dmaAud, hon]

/-- Housekeeping makes each channel's period tick with the enable as it stands (R121). -/
theorem housekeeping_chan (s : State) (n : Fin 4) :
    (housekeeping s).aud[n] = s.aud[n].periodTick (s.dmaOn n.val) := by
  rw [housekeeping, blitterStartTick_touches, State.withBlt_aud, ddfTrack_touches]
  simp only [audioPeriodTicks, State.withAud_aud, Fin.getElem_fin, Vector.getElem_ofFn, Fin.eta, State.withBpl_aud]
  rfl

/-- Settles O20: the write tests each channel's enable, and so does the period tick. -/
theorem dmaconWriteStopsDisabledAudioAtOnce : Obligations.DmaconWriteStopsDisabledAudioAtOnce := by
  unfold Obligations.DmaconWriteStopsDisabledAudioAtOnce
  intro v n s t ht
  obtain rfl : writeDmacon v s = t := Host.Outcome.next.inj ht
  refine ⟨audioStopDisabled_chan _ n, rfl, fun hoff hst => ?_⟩
  rw [housekeeping_chan, hoff]
  exact if_neg hst

/-! ### The slot -/

theorem AudioChan.period_eq (c : AudioChan) : c.period = BitVec.ofNat 16 (max c.per.toNat 113) := by
  apply BitVec.eq_of_toNat_eq
  unfold AudioChan.period audPerMin
  split <;> bv_omega

theorem exec_audioRow (n : Fin 4) (s : State) : exec (audioRow n) s = audioTurnAt n s := by
  fin_cases n <;> rfl

theorem audioWants_iff {n : Fin 4} {s : State} : audioWants n s ↔ s.dmaOn n.val ∧ s.aud[n].dmareq :=
  Bool.and_eq_true_iff

/-- The channel after a fetch, field by field (R324). -/
theorem AudioChan.fetched_eq (w : Word) (p : Long) (c : AudioChan) :
    let starting := c.st == .dmaStarting
    let exhausted := c.wlen.toNat == 1
    c.fetched w p = { c with
      dat := w, dmareq := starting
      ptr := if exhausted then c.lc else p
      wlen := if exhausted then c.len else c.wlen - 1
      cur := if starting then w else c.cur
      out := if starting then firstHalf w else c.out
      percnt := if starting then c.period else c.percnt
      st := if starting then .dmaSamp1 else c.st } := by
  have hend : c.wlen - 1 = 0 ↔ c.wlen.toNat = 1 := by bv_omega
  unfold AudioChan.fetched AudioChan.firstWord
  simp only [hend, beq_iff_eq]
  by_cases hx : c.wlen.toNat = 1 <;> by_cases hst : c.st = .dmaStarting <;> simp [hx, hst, AudioChan.period]

/-- The turn of a channel that wants its slot (R324). -/
theorem audioSlot_eq {n : Fin 4} {s : State} (hr : dmaInRange s s.aud[n].ptr) (hf : ptrFits s.aud[n].ptr 2) :
    let c := s.aud[n]
    let w := Mem.readWord s.mem (dmaAddr s c.ptr)
    let g := grant .audio c.ptr w (s.withAud (s.aud.set n (c.fetched w (c.ptr + 2))))
    audioSlot n s = .next (if c.wlen.toNat == 1 then raiseIrq (irqAud n) s.cfg.irqDelayAudio g else g) := by
  have hend : s.aud[n].wlen - 1 = 0 ↔ s.aud[n].wlen.toNat = 1 := by bv_omega
  unfold audioSlot
  simp only [hend, beq_iff_eq]
  rw [withMemRead_of_inRange hr, withPtrAdd_of_fits hf]
  rfl

/-- Settles O38: the row is its channel's turn, which fetches on the test of R128 and reads inside memory. -/
theorem audioRowFetchesOneWord : Obligations.AudioRowFetchesOneWord := by
  unfold Obligations.AudioRowFetchesOneWord
  intro n s c w starting exhausted c' g
  have hfetched : c.fetched w (c.ptr + 2) = c' := by
    rw [AudioChan.fetched_eq, AudioChan.period_eq]
    rfl
  rw [exec_audioRow]
  refine ⟨fun hon hreq hr hf => ?_, fun h => if_neg ?_, fun hon hreq hr => ?_⟩
  · rw [audioTurnAt, if_pos (audioWants_iff.2 ⟨hon, hreq⟩), audioSlot_eq hr hf, hfetched]
    rfl
  · rw [audioWants_iff]
    rintro ⟨hon, hreq⟩
    exact h.elim (fun hoff => Bool.false_ne_true (hoff.symm.trans hon)) fun hnone =>
      Bool.false_ne_true (hnone.symm.trans hreq)
  · rw [audioTurnAt, if_pos (audioWants_iff.2 ⟨hon, hreq⟩), audioSlot, withMemRead]
    exact if_neg (Bool.eq_false_iff.1 hr)

/-! ### The period tick -/

section
variable {c : AudioChan}

theorem AudioChan.periodTick_off_of_inactive (h : c.st = .inactive) : c.periodTick false = c := if_pos h

theorem AudioChan.periodTick_on_of_inactive (h : c.st = .inactive) : c.periodTick true = c.start := by
  simp [AudioChan.periodTick, h]

theorem AudioChan.periodTick_on_of_starting (h : c.st = .dmaStarting) : c.periodTick true = c := by
  simp [AudioChan.periodTick, h]

theorem AudioChan.periodDue_iff : c.periodDue ↔ c.percnt.toNat = 1 := by
  rw [AudioChan.periodDue, beq_iff_eq]
  bv_omega

theorem AudioChan.periodTick_on_of_playing (h : c.st = .dmaSamp1 ∨ c.st = .dmaSamp2) :
    c.periodTick true = if c.percnt.toNat = 1 then c.nextHalf else { c with percnt := c.percnt - 1 } := by
  rcases h with h | h <;> simp [AudioChan.periodTick, h, AudioChan.periodDue_iff]

theorem AudioChan.nextHalf_of_first (h : c.st = .dmaSamp1) :
    c.nextHalf = { c with percnt := c.period, st := .dmaSamp2, out := secondHalf c.cur } := by
  simp [AudioChan.nextHalf, h]

theorem AudioChan.nextHalf_of_second (h : c.st = .dmaSamp2) :
    c.nextHalf = { c with percnt := c.period, st := .dmaSamp1, cur := c.dat, out := firstHalf c.dat, dmareq := true } := by
  simp [AudioChan.nextHalf, h]

end

end Sys2Proof.Machine
end

section
/-! What the turns of the chain are made of (R122 to R132): updates of single blocks, claims of the slot, disk flushes, audio
fetches and register writes. -/

namespace Sys2Proof.Machine

/-- `t` is reached from `s` by the operations that the consumers' turns are made of (`chain_byTurns`). -/
inductive ByTurns (s : State) : State → Prop
  | refl : ByTurns s s
  | mem {t : State} (h : ByTurns s t) (x : Memory) : ByTurns s (t.withMem x)
  | irq {t : State} (h : ByTurns s t) (x : Irq) : ByTurns s (t.withIrq x)
  | bpl {t : State} (h : ByTurns s t) (x : Bitplane) : ByTurns s (t.withBpl x)
  | spr {t : State} (h : ByTurns s t) (x : Vector Sprite 8) : ByTurns s (t.withSpr x)
  | blt {t : State} (h : ByTurns s t) (x : Blitter) : ByTurns s (t.withBlt x)
  | cop {t : State} (h : ByTurns s t) (x : Copper) : ByTurns s (t.withCop x)
  | dsk {t : State} (h : ByTurns s t) (x : Disk) : ByTurns s (t.withDsk x)
  | grant {t : State} (h : ByTurns s t) (o : BusOwner) (a : Long) (v : Word) : ByTurns s (grant o a v t)
  | flush {t : State} (h : ByTurns s t) : ByTurns s (diskWriteFlush t)
  | fetched {t : State} (h : ByTurns s t) (n : Fin 4) (w : Word) (p : Long) :
      ByTurns s (t.mapAud n (AudioChan.fetched w p))
  | reg {t u : State} (h : ByTurns s t) {r : Reg} {v : Word} (hu : regWriteReg r v t = .next u) : ByTurns s u

theorem ByTurns.trans {s t u : State} (h : ByTurns s t) (k : ByTurns t u) : ByTurns s u := by
  induction k with
  | refl => exact h
  | mem _ x ih => exact ih.mem x
  | irq _ x ih => exact ih.irq x
  | bpl _ x ih => exact ih.bpl x
  | spr _ x ih => exact ih.spr x
  | blt _ x ih => exact ih.blt x
  | cop _ x ih => exact ih.cop x
  | dsk _ x ih => exact ih.dsk x
  | grant _ o a v ih => exact ih.grant o a v
  | flush _ ih => exact ih.flush
  | fetched _ n w p ih => exact ih.fetched n w p
  | reg _ hu ih => exact ih.reg hu

/-- The operation is made of those of the turns. -/
def IsTurn (f : State → Result) : Prop := ∀ s, Ends True (ByTurns s) (f s)

section
variable {f g : State → Result}

theorem IsTurn.after (hf : IsTurn f) {s t : State} (h : ByTurns s t) : Ends True (ByTurns s) (f t) :=
  (hf t).mono id fun _ hu => h.trans hu

theorem IsTurn.andThen (hf : IsTurn f) (hg : IsTurn g) : IsTurn fun s => andThen (f s) g :=
  fun s => (hf s).andThen fun _ ht => hg.after ht

theorem IsTurn.ifUnclaimed (hf : IsTurn f) : IsTurn (ifUnclaimed f) := by
  intro s
  unfold Machine.ifUnclaimed
  split
  · exact .next .refl
  · exact hf s

end

theorem isTurn_regWriteReg (r : Reg) (v : Word) : IsTurn (regWriteReg r v) := fun _ => .of_eq_next fun _ ht => .reg .refl ht

theorem isTurn_regWrite (off v : Word) : IsTurn (regWrite off v) := by
  intro s
  unfold regWrite
  split
  · exact isTurn_regWriteReg _ v s
  · exact .next .refl

/-! ### The consumers with fixed slots, and the bitplanes -/

theorem byTurns_diskCountDown {s t : State} (h : ByTurns s t) {flush : State → State}
    (hf : flush = id ∨ flush = diskWriteFlush) : ByTurns s (diskCountDown flush t) := by
  have hflush : ∀ u, ByTurns s u → ByTurns s (flush u) := fun u hu => by
    rcases hf with rfl | rfl
    · exact hu
    · exact hu.flush
  unfold diskCountDown
  dsimp only
  split
  · exact ((hflush _ (h.dsk _)).dsk _).irq _
  · exact h.dsk _

theorem isTurn_diskReadWord : IsTurn diskReadWord := by
  intro s
  unfold diskReadWord
  extract_lets w hit d1 s1 s2 d2
  have hsync : ByTurns s s2 := by
    unfold s2
    split
    · exact ((ByTurns.refl.dsk _).irq _).dsk _
    · exact ByTurns.refl.dsk _
  split
  · exact .next ((hsync.dsk _).grant _ _ _)
  · split
    · exact .next (hsync.grant _ _ _)
    · refine .andThen_memWrite (.withPtrAdd fun p => .next ?_)
      exact byTurns_diskCountDown (((hsync.mem _).dsk _).grant _ _ _) (.inl rfl)

theorem isTurn_diskWriteWord : IsTurn diskWriteWord := fun _ =>
  .withMemRead fun _ => .withPtrAdd fun _ => .next (byTurns_diskCountDown ((ByTurns.refl.dsk _).grant _ _ _) (.inr rfl))

theorem isTurn_diskTurnAt : IsTurn diskTurnAt := by
  intro s
  unfold diskTurnAt diskSlot
  split
  · split
    · exact .next (ByTurns.refl.grant _ _ _)
    · rename_i d _
      have hload : ByTurns s (trackBufferLoad d s) := by
        rw [trackBufferLoad_touches]
        exact ByTurns.refl.dsk _
      dsimp only
      split
      · exact isTurn_diskWriteWord.after hload
      · exact isTurn_diskReadWord.after hload
  · exact .next .refl

theorem isTurn_audioTurnAt (n : Fin 4) : IsTurn (audioTurnAt n) := by
  intro s
  unfold audioTurnAt audioSlot
  split
  · refine .withMemRead fun w => .withPtrAdd fun p => .next ?_
    have hgrant := (ByTurns.refl.fetched (s := s) n w p).grant .audio s.aud[n].ptr w
    split
    · exact hgrant.irq _
    · exact hgrant
  · exact .next .refl

theorem isTurn_bitplaneTurn : IsTurn bitplaneTurn := by
  intro s
  unfold bitplaneTurn bitplaneSlot withPlaneStep
  split
  · rename_i p _
    refine .withMemRead fun w => .withPtrAdd fun a => ?_
    have hwrite : ∀ a, Ends True (ByTurns s) (andThen (regWriteReg (.bpldat p) w (s.setBplpt p a)) fun s1 =>
        .next (grant .bitplane s.bpl.pt[p] w s1)) := fun a =>
      Ends.andThen ((isTurn_regWriteReg (.bpldat p) w).after (ByTurns.refl.bpl _)) fun t ht => .next (ht.grant _ _ _)
    split
    · exact .withPtrAdd hwrite
    · exact hwrite a
  · exact .next .refl

theorem isTurn_spriteTurnAt (n : Fin 8) (k : Fin 2) : IsTurn (spriteTurnAt n k) := by
  intro s
  unfold spriteTurnAt spriteSlot
  split
  · refine .withMemRead fun w => .withPtrAdd fun a => ?_
    exact Ends.andThen ((isTurn_regWriteReg _ w).after (ByTurns.refl.spr _)) fun t ht => .next ((ht.spr _).grant _ _ _)
  · exact .next .refl

theorem isTurn_fixedTurn (o : BusOwner) (hc : o ≠ .copper) (hb : o ≠ .blitter) : IsTurn (fixedTurn o) := by
  intro s
  unfold fixedTurn
  split
  · rename_i i hslot
    obtain rfl := owner_of_slotOf hslot
    cases i with
    | move | wait | skip => exact absurd rfl hc
    | bltArea | bltFillInclusive | bltFillExclusive | bltLine => exact absurd rfl hb
    | slotRefresh0 | slotRefresh1 | slotRefresh2 | slotRefresh3 => exact .next (ByTurns.refl.grant _ _ _)
    | slotDisk0 | slotDisk1 | slotDisk2 => exact isTurn_diskTurnAt s
    | slotAud0 | slotAud1 | slotAud2 | slotAud3 => exact isTurn_audioTurnAt _ s
    | _ => exact isTurn_spriteTurnAt _ _ s
  · exact .next .refl

/-! ### The copper -/

theorem CopperMoved.byTurns {s t : State} (h : CopperMoved s t) : ByTurns s t := by
  obtain ⟨c, rfl⟩ := h
  exact ByTurns.refl.cop c

theorem isTurn_execWait (vp hp : Byte) (bfd : Bool) (ve : BitVec 7) (he : Byte) : IsTurn (execWait vp hp bfd ve he) :=
  fun s => (execWait_moves vp hp bfd ve he s).mono id fun _ => CopperMoved.byTurns

theorem isTurn_execSkip (vp hp : Byte) (bfd : Bool) (ve : BitVec 7) (he : Byte) : IsTurn (execSkip vp hp bfd ve he) :=
  fun s => (execSkip_moves vp hp bfd ve he s).mono id fun _ => CopperMoved.byTurns

theorem isTurn_execMove (off data : Word) : IsTurn (execMove off data) := by
  intro s
  unfold execMove
  split
  · exact .next ((ByTurns.refl.cop _).cop _)
  · split
    · exact .next (ByTurns.refl.cop _)
    · exact isTurn_regWrite off data s

theorem isTurn_exec_decodeCopper (w1 w2 : Word) : IsTurn (exec (decodeCopper w1 w2)) := by
  intro s
  unfold decodeCopper
  split
  · exact isTurn_execMove _ _ s
  · split
    · exact isTurn_execWait _ _ _ _ _ s
    · exact isTurn_execSkip _ _ _ _ _ s

theorem isTurn_copperFetch : IsTurn copperFetch := by
  intro s
  unfold copperFetch
  split
  · refine .withMemRead fun w => .withPtrAdd fun p => ?_
    have hgrant := ((ByTurns.refl (s := s)).cop { s.cop with pc := p }).grant .copper s.cop.pc w
    dsimp only
    split
    · exact (isTurn_exec_decodeCopper _ w).after (hgrant.cop _)
    · exact .next (hgrant.cop _)
  · exact .next .refl

theorem isTurn_copperTurn : IsTurn copperTurn := by
  intro s
  unfold copperTurn
  split
  · split
    case h_1 => exact .next .refl
    case h_2 => exact isTurn_copperFetch.after (ByTurns.refl.cop _)
    case h_3 => exact isTurn_copperFetch s
    case h_4 =>
      split
      · exact isTurn_execSkip _ _ _ _ _ s
      · exact isTurn_execWait _ _ _ _ _ s
    case h_5 => exact isTurn_execWait _ _ _ _ _ s
    case h_6 => exact isTurn_execSkip _ _ _ _ _ s
    case h_7 | h_8 => exact .next (ByTurns.refl.cop _)
  · exact .next .refl

/-! ### The blitter -/

theorem isTurn_bltFetch (m : BltMode) (x : BltChan) : IsTurn (bltFetch m x) := fun _ =>
  .withMemRead fun _ => .withAreaStep fun _ => .next ((ByTurns.refl.blt _).grant _ _ _)

theorem isTurn_bltWriteD (desc : Bool) : IsTurn (bltWriteD desc) := fun _ =>
  .andThen_memWrite (.withAreaStep fun _ => .next (((ByTurns.refl.mem _).blt _).grant _ _ _))

theorem isTurn_areaSlot (m : BltMode) (ph : BltPhase) : IsTurn (areaSlot m ph) := by
  intro s
  cases ph with
  | a | b | c => exact isTurn_bltFetch m _ s
  | d => exact isTurn_bltWriteD _ s
  | idle => exact .next .refl

theorem isTurn_lineFetchC : IsTurn lineFetchC := by
  refine fun s => .withMemRead fun w => .next (.grant ?_ _ _ _)
  split
  · exact ByTurns.refl.blt _
  · exact .refl

theorem isTurn_lineWriteD (m : LineMode) : IsTurn (lineWriteD m) := by
  intro s
  unfold lineWriteD
  split
  · exact .andThen_memWrite (.next (((ByTurns.refl.mem _).blt _).grant _ _ _))
  · exact .next ((ByTurns.refl.blt _).grant _ _ _)

theorem isTurn_lineSlot (m : LineMode) (ph : BltPhase) : IsTurn (lineSlot m ph) := by
  intro s
  cases ph with
  | a | b | c => exact isTurn_lineFetchC s
  | d => exact isTurn_lineWriteD m s
  | idle => exact .next .refl

theorem byTurns_completeWord (m : BltMode) (s : State) : ByTurns s (completeWord m s) := by
  rw [completeWord_touches]
  exact (ByTurns.refl.blt _).irq _

theorem isTurn_completeDot (m : LineMode) : IsTurn (completeDot m) := fun s =>
  .lineMinorStep m fun _ _ => .lineMajorStep m fun b _ => .next (by
    rw [lineFinish_touches]
    exact (ByTurns.refl.blt _).irq _)

theorem isTurn_phaseAdvance (n : Nat) {complete : State → Result} (hc : IsTurn complete) :
    IsTurn (phaseAdvance n complete) := by
  intro s
  unfold phaseAdvance
  split
  · exact hc.after (ByTurns.refl.blt _)
  · exact .next (ByTurns.refl.blt _)

theorem isTurn_patternTurn (pat : List BltPhase) (needs : BltPhase → Bool) {slot : BltPhase → State → Result}
    {complete : State → Result} (hs : ∀ ph, IsTurn (slot ph)) (hc : IsTurn complete) :
    IsTurn (patternTurn pat needs slot complete) := by
  intro s
  unfold patternTurn
  split
  · exact .fault fun _ => trivial
  · split
    · split
      · exact (hs _).andThen (isTurn_phaseAdvance _ hc) s
      · exact .next .refl
    · exact isTurn_phaseAdvance _ hc s

theorem isTurn_exec_blitMode (s : State) : Ends True (ByTurns s) (exec (decodeBlitMode s.blt.con1) s) := by
  rcases exec_blitMode_eq s with ⟨-, m, hline⟩ | ⟨-, m, harea, -⟩
  · rw [hline]
    exact isTurn_patternTurn _ _ (isTurn_lineSlot m) (isTurn_completeDot m) s
  · rw [harea]
    exact isTurn_patternTurn _ _ (isTurn_areaSlot m) (fun s => .next (byTurns_completeWord m s)) s

theorem isTurn_finalTurn : IsTurn finalTurn := by
  intro s
  unfold finalTurn
  split
  · split
    · exact (isTurn_bltWriteD _ s).andThen fun _ ht => .next (ht.blt _)
    · exact .next .refl
  · exact .next (ByTurns.refl.blt _)

theorem isTurn_blitterTurn : IsTurn blitterTurn := by
  intro s
  unfold blitterTurn
  split
  · split
    case h_1 | h_2 => exact .next .refl
    case h_3 => exact isTurn_exec_blitMode s
    case h_4 => exact isTurn_finalTurn s
  · exact .next .refl

/-! ### The chain -/

/-- The chain is made of these operations alone (R122). -/
theorem chain_byTurns : IsTurn chain := by
  have hrefresh := isTurn_fixedTurn .refresh (by decide) (by decide)
  have hdisk := (isTurn_fixedTurn .disk (by decide) (by decide)).ifUnclaimed
  have haudio := (isTurn_fixedTurn .audio (by decide) (by decide)).ifUnclaimed
  have hsprite := (isTurn_fixedTurn .sprite (by decide) (by decide)).ifUnclaimed
  have hupper : IsTurn upperChain :=
    hrefresh.andThen (hdisk.andThen (haudio.andThen (isTurn_bitplaneTurn.ifUnclaimed.andThen hsprite)))
  exact hupper.andThen (isTurn_copperTurn.ifUnclaimed.andThen isTurn_blitterTurn.ifUnclaimed)

end Sys2Proof.Machine
end

section
/-! The mixer (R330): no turn reaches the filters and the sample of the tick, which are the mixer's own; its two instants. -/

namespace Sys2Proof.Machine

/-! ### What a tick leaves to the mixer -/

/-- The sample of the tick and the channels' filter states. -/
def State.mixer (s : State) : Option (Int × Int) × Vector Int 4 := (s.out.sample, s.aud.map AudioChan.filt)

theorem State.mixer_eq_iff {s : State} {x : Option (Int × Int)} {y : Vector Int 4} :
    s.mixer = (x, y) ↔ s.out.sample = x ∧ ∀ n : Fin 4, s.aud[n].filt = y[n] := by
  rw [State.mixer, Prod.mk.injEq]
  refine and_congr_right fun _ => ⟨fun h n => ?_, fun h => ?_⟩
  · simp [← h]
  · ext n hn : 1
    simpa using h ⟨n, hn⟩

/-- A change of the channels that leaves each filter as it is. -/
theorem State.withAud_mixer {s : State} {x : Vector AudioChan 4} (hx : ∀ n : Fin 4, x[n].filt = s.aud[n].filt) :
    (s.withAud x).mixer = s.mixer :=
  State.mixer_eq_iff.2 ⟨rfl, fun n => by simpa using hx n⟩

theorem State.mapAud_mixer {s : State} (n : Fin 4) {f : AudioChan → AudioChan} (hf : ∀ c, (f c).filt = c.filt) :
    (s.mapAud n f).mixer = s.mixer := by
  refine State.withAud_mixer fun m => ?_
  by_cases hnm : n = m
  · subst hnm
    simpa using hf _
  · simp [Fin.val_inj, hnm]

theorem AudioChan.fetched_filt (w : Word) (p : Long) (c : AudioChan) : (c.fetched w p).filt = c.filt := by
  rw [AudioChan.fetched_eq]

theorem AudioChan.nextHalf_filt (c : AudioChan) : c.nextHalf.filt = c.filt := by
  unfold AudioChan.nextHalf
  dsimp only
  split <;> rfl

theorem AudioChan.periodTick_filt (on : Bool) (c : AudioChan) : (c.periodTick on).filt = c.filt := by
  unfold AudioChan.periodTick
  split
  · split <;> rfl
  · split
    case h_1 | h_2 => rfl
    all_goals
      split
      · exact c.nextHalf_filt
      · rfl

theorem audioStopDisabled_mixer (s : State) : (audioStopDisabled s).mixer = s.mixer := by
  have hfilt : ∀ n : Fin 4, (audioStopDisabled s).aud[n].filt = s.aud[n].filt := fun n => by
    rw [audioStopDisabled_chan]
    split <;> rfl
  exact State.withAud_mixer hfilt

theorem diskWriteFlush_mixer (s : State) : (diskWriteFlush s).mixer = s.mixer := by
  unfold diskWriteFlush
  dsimp only
  split
  · rfl
  · split
    · rfl
    · unfold flushToDrive
      dsimp only
      split
      · rfl
      · split
        · rfl
        · split <;> rfl

theorem writeDsklen_mixer (v : Word) (s : State) : (writeDsklen v s).mixer = s.mixer := by
  unfold writeDsklen
  dsimp only
  split
  · rfl
  · split
    · split <;> rfl
    · split
      · rfl
      · split
        · exact diskWriteFlush_mixer s
        · rfl

theorem regWriteReg_mixer {r : Reg} {v : Word} {s t : State} (h : regWriteReg r v s = .next t) : t.mixer = s.mixer := by
  have hblitter : ∀ f, writeBlitter f s = .next t → t.mixer = s.mixer := fun f hf => by
    unfold writeBlitter at hf
    split at hf
    · cases hf
    · cases hf
      rfl
  cases r with
  | dsklen => exact Host.Outcome.next.inj h ▸ writeDsklen_mixer v s
  | dmacon => exact Host.Outcome.next.inj h ▸ audioStopDisabled_mixer _
  | audlch n | audlcl n | audlen n | audper n | audvol n | auddat n =>
    exact Host.Outcome.next.inj h ▸ State.mapAud_mixer n fun _ => rfl
  | bltsize =>
    simp only [regWriteReg, writeBltsize] at h
    split at h
    · cases h
      rfl
    · cases h
  | bltcon0 | bltcon1 | bltafwm | bltalwm | bltpth | bltptl | bltmod | bltcdat | bltbdat | bltadat =>
    simp only [regWriteReg] at h
    exact hblitter _ h
  | _ => exact Host.Outcome.next.inj h ▸ rfl

theorem ByTurns.mixer {s t : State} (h : ByTurns s t) : t.mixer = s.mixer := by
  induction h with
  | refl => rfl
  | flush _ ih => exact (diskWriteFlush_mixer _).trans ih
  | fetched _ n w p ih => exact (State.mapAud_mixer n (AudioChan.fetched_filt w p)).trans ih
  | reg _ hu ih => exact (regWriteReg_mixer hu).trans ih
  | mem | irq | bpl | spr | blt | cop | dsk | grant => assumption

theorem housekeeping_mixer (s : State) : (housekeeping s).mixer = s.mixer := by
  have hchan : ∀ n : Fin 4, (housekeeping s).aud[n].filt = s.aud[n].filt := fun n => by
    rw [housekeeping_chan]
    exact AudioChan.periodTick_filt _ _
  rw [housekeeping_touches]
  exact State.withAud_mixer (s := s.withBpl _) hchan

theorem phase2_mixer (wants : Bool) (s : State) : Ends True (fun t => t.mixer = s.mixer) (phase2 wants s) := by
  unfold phase2
  split
  · refine (chain_byTurns (housekeeping s)).andThen fun t ht => .next ?_
    have hfree : (freeCycle t).mixer = t.mixer := by
      unfold freeCycle
      split <;> rfl
    exact hfree.trans (ht.mixer.trans (housekeeping_mixer s))
  · exact .next rfl

/-! ### The mixer -/

/-- The two instants of a line (R330). -/
def MixInstant (s : State) : Prop := s.beam.hpos.toNat = s.cfg.audMixTick1 ∨ s.beam.hpos.toNat = s.cfg.audMixTick2

theorem mixDue_iff (s : State) : mixDue s ↔ MixInstant s := by
  simp [mixDue, MixInstant]

theorem audioMixIfDue_of_not_due {s : State} (h : ¬ MixInstant s) : audioMixIfDue s = s :=
  if_neg (mt (mixDue_iff s).1 h)

theorem audioMixIfDue_chan {s : State} (h : MixInstant s) (n : Fin 4) :
    (audioMixIfDue s).aud[n] = s.aud[n].mix s.cfg := by
  rw [audioMixIfDue, if_pos ((mixDue_iff s).2 h)]
  simp

theorem audioMixIfDue_out {s : State} (h : MixInstant s) :
    let share := fun n : Fin 4 => (s.aud[n].mix s.cfg).filtOut s.cfg
    (audioMixIfDue s).out = { s.out with sample := some (share 0 + share 3, share 1 + share 2) } := by
  rw [audioMixIfDue, if_pos ((mixDue_iff s).2 h)]
  rfl

/-- What the CIA ticks and the interrupt phases before the mixer leave to it (R120). -/
theorem ciaAndDriveTick_updateIpl_phase4_frame (s : State) :
    (ciaAndDriveTick (updateIpl (phase4 s))).cfg = s.cfg ∧ (ciaAndDriveTick (updateIpl (phase4 s))).beam = s.beam
      ∧ (ciaAndDriveTick (updateIpl (phase4 s))).mixer = s.mixer := by
  rw [ciaAndDriveTick_touches, updateIpl, phase4, dskbytHoldCountdown_touches]
  simp [State.mixer]

/-- The beam's advance and the end of the tick leave what the mixer made (R120). -/
theorem tickEnd_beamAdvance_frame (wants : Bool) (s : State) :
    (tickEnd wants (beamAdvance s)).aud = s.aud ∧ (tickEnd wants (beamAdvance s)).out.sample = s.out.sample := by
  have hadv : (beamAdvance s).out.sample = s.out.sample := by
    unfold beamAdvance nextLine
    split
    · split <;> rfl
    · rfl
  refine ⟨?_, hadv⟩
  rw [beamAdvance_touches]
  rfl

/-- A tick mixes the channels as they stand after its CIA ticks, where filters, beam and parameters are still those that it
started with (R120). -/
theorem tick_mixes {wants : Bool} {s t : State} (h : tick wants s = .next t) :
    ∃ u : State, u.cfg = s.cfg ∧ u.beam = s.beam ∧ u.out.sample = none ∧ (∀ n : Fin 4, u.aud[n].filt = s.aud[n].filt)
      ∧ t.aud = (audioMixIfDue u).aud ∧ t.out.sample = (audioMixIfDue u).out.sample := by
  obtain ⟨v, hv, hvt⟩ := (andThen_eq_next_iff _ _ _).1 h
  have hoff : v.offBus = s.offBus := (hv ▸ phase2_keepsOffBus wants (phase1 (tickStart s))).of_next
  have hmix : v.mixer = (none, s.aud.map AudioChan.filt) := (hv ▸ phase2_mixer wants (phase1 (tickStart s))).of_next
  simp only [State.offBus, OffBus.mk.injEq] at hoff
  obtain ⟨hcfg, hbeam, -⟩ := hoff
  rw [← Host.Outcome.next.inj hvt, tickRest]
  generalize hpixels : pixelOutput (spritePixels (tickStart s)) (playfield (tickStart s)) v = w
  have hw : w.cfg = v.cfg ∧ w.beam = v.beam ∧ w.mixer = v.mixer := hpixels ▸ ⟨rfl, rfl, rfl⟩
  obtain ⟨hwCfg, hwBeam, hwMix⟩ := hw
  obtain ⟨huCfg, huBeam, huMix⟩ := ciaAndDriveTick_updateIpl_phase4_frame w
  obtain ⟨hsample, hfilt⟩ := State.mixer_eq_iff.1 (huMix.trans (hwMix.trans hmix))
  exact ⟨_, huCfg.trans (hwCfg.trans hcfg), huBeam.trans (hwBeam.trans hbeam), hsample, fun n => by simpa using hfilt n,
    tickEnd_beamAdvance_frame wants _⟩

/-! ### The statement -/

/-- The default filter is half of the difference (R330). -/
theorem audFilter_default (y x : Int) : audFilter Config.default y x = y + Int.fdiv (x - y) 2 := by
  show y + (1 * (x - y)) / 2 = _
  rw [one_mul, Int.fdiv_eq_ediv_of_nonneg _ (by decide)]

/-- Settles O39: housekeeping by the channel's period tick in each of its states, the mixer at and off its instants, and a tick
by what it leaves to the mixer. -/
theorem audioPeriodTickPlaysHalfSamples : Obligations.AudioPeriodTickPlaysHalfSamples := by
  unfold Obligations.AudioPeriodTickPlaysHalfSamples
  refine ⟨fun n s => ?period, fun s => ?mixer, fun wants s t ht => ?tick, fun x y => ⟨audFilter_default y x, rfl⟩, rfl, rfl⟩
  case period =>
    intro c t per
    have hper : c.period = per := c.period_eq
    have htick : t = c.periodTick (s.dmaOn n.val) := housekeeping_chan s n
    rw [htick, ← hper]
    refine ⟨fun hoff hst => ?_, fun hon hst => ?_, fun hon hst => ?_, fun hon hst hcnt => ?_, fun hon hst hcnt => ?_,
      fun hon hst hcnt => ?_⟩
    · rw [hoff, AudioChan.periodTick_off_of_inactive hst]
    · rw [hon, AudioChan.periodTick_on_of_inactive hst, AudioChan.start]
    · rw [hon, AudioChan.periodTick_on_of_starting hst]
    · rw [hon, AudioChan.periodTick_on_of_playing hst, if_neg hcnt]
    · rw [hon, AudioChan.periodTick_on_of_playing (.inl hst), if_pos hcnt, AudioChan.nextHalf_of_first hst, secondHalf]
    · rw [hon, AudioChan.periodTick_on_of_playing (.inr hst), if_pos hcnt, AudioChan.nextHalf_of_second hst, firstHalf]
  case mixer =>
    refine ⟨audioMixIfDue_of_not_due, fun hdue => ⟨?_, audioMixIfDue_chan hdue⟩⟩
    rw [audioMixIfDue_touches, audioMixIfDue_out hdue]
    rfl
  case tick =>
    obtain ⟨u, hcfg, hbeam, hnone, hfilt, haud, hsample⟩ := tick_mixes ht
    have hinst : MixInstant u ↔ MixInstant s := by rw [MixInstant, hcfg, hbeam, ← MixInstant]
    rw [haud, hsample]
    refine ⟨fun hdue => ?_, fun hdue => ?_⟩
    · rw [audioMixIfDue_of_not_due (mt hinst.1 hdue)]
      exact ⟨hnone, hfilt⟩
    · have hdue : MixInstant u := hinst.2 hdue
      rw [audioMixIfDue_out hdue, ← hcfg]
      simp only [audioMixIfDue_chan hdue, ← hfilt]
      exact ⟨fun n => rfl, rfl⟩

end Sys2Proof.Machine
end

section
/-! The CIA chip on its own: flags and line (R357), a CIA tick of the timers (R353), the event counters (R356) and the register
writes (R352). -/

namespace Sys2Proof.Machine

/-! ### Flags and line -/

/-- The line stays up or goes up by the flags that the mask lets through (R357). -/
theorem Cia.raiseLine_eq (c : Cia) : c.raiseLine = { c with irq := c.irq || c.icrData &&& c.icrMask != 0 } := by
  unfold Cia.raiseLine
  split
  · rename_i hmask
    simp only [bne_iff_ne.2 hmask, Bool.or_true]
  · rename_i hmask
    simp only [not_not.1 hmask, bne_self_eq_false, Bool.or_false]

/-- `icr_set(i, b)` when `on`: the form in which the timers and the counters set their flags. -/
def Cia.flagIf (c : Cia) (on : Bool) (b : Nat) : Cia := if on then c.icrSet b else c

/-- The flags after `flagIf`. -/
def flagsAfter (flags : BitVec 5) (on : Bool) (b : Nat) : BitVec 5 := if on then setBit flags b true else flags

theorem Cia.flagIf_eq (c : Cia) (on : Bool) (b : Nat) :
    c.flagIf on b = { c with
      icrData := flagsAfter c.icrData on b
      irq := c.irq || (on && flagsAfter c.icrData on b &&& c.icrMask != 0) } := by
  cases on
  · simp [Cia.flagIf, flagsAfter]
  · simp [Cia.flagIf, flagsAfter, Cia.icrSet, Cia.raiseLine_eq]

theorem getLsbD_flagsAfter (flags : BitVec 5) (on : Bool) (b : Fin 5) (i : Fin 5) :
    (flagsAfter flags on i).getLsbD b = (flags.getLsbD b || (b == i && on)) := by
  cases on
  · simp [flagsAfter]
  · rw [flagsAfter, if_pos rfl, getLsbD_setBit _ _ _ _ b.isLt]
    by_cases hbi : b = i
    · simp [hbi]
    · simp [hbi, Fin.val_ne_of_ne hbi]

/-- A flag set later hides no flag that the mask lets through. -/
theorem flagsAfter_masked {flags mask : BitVec 5} (h : (flags &&& mask != 0) = true) (on : Bool) (b : Nat) :
    (flagsAfter flags on b &&& mask != 0) = true := by
  cases on
  · exact h
  · rw [bne_iff_ne] at h ⊢
    refine mt (fun hzero => ?_) h
    rw [flagsAfter, if_pos rfl, setBit, if_pos rfl, BitVec.and_or_distrib_right] at hzero
    exact (BitVec.or_eq_zero_iff.1 hzero).1

/-- Two flags set one after the other raise the line as both at once. -/
theorem Cia.flagIf_flagIf (c : Cia) (on₀ on₁ : Bool) (b₀ b₁ : Nat) :
    (c.flagIf on₀ b₀).flagIf on₁ b₁ = { c with
      icrData := flagsAfter (flagsAfter c.icrData on₀ b₀) on₁ b₁
      irq := c.irq || ((on₀ || on₁) && flagsAfter (flagsAfter c.icrData on₀ b₀) on₁ b₁ &&& c.icrMask != 0) } := by
  rw [Cia.flagIf_eq, Cia.flagIf_eq]
  simp only [Cia.mk.injEq, true_and, Bool.or_assoc]
  congr 1
  generalize flagsAfter c.icrData on₀ b₀ = flags
  cases hfirst : flags &&& c.icrMask != 0
  · cases on₁
    · simp only [flagsAfter, Bool.false_eq_true, if_false, hfirst, Bool.and_false, Bool.or_self]
    · simp
  · rw [flagsAfter_masked hfirst]
    cases on₀ <;> simp

/-! ### Timers -/

/-- Timer A counts the CIA ticks (R353). -/
def Cia.runsA (c : Cia) : Bool := c.cra.getLsbD 0 && !c.cra.getLsbD 5

/-- Timer B counts in this CIA tick: a tick or an underflow of timer A (R353). -/
def Cia.runsB (c : Cia) : Bool := c.crb.getLsbD 0 && c.countsB c.underflowA

/-- Timer B underflows in this CIA tick (R353). -/
def Cia.underflowB (c : Cia) : Bool := c.runsB && c.tb == 0

theorem Cia.underflowA_eq (c : Cia) : c.underflowA = (c.runsA && c.ta == 0) := rfl

/-- The two bits of timer B's input mode as a number (R353). -/
theorem Cia.runsB_eq (c : Cia) :
    c.runsB = (c.crb.getLsbD 0 && (c.crb.toNat / 32 % 4 == 0 || (c.crb.toNat / 32 % 4 == 2 && c.underflowA))) := by
  have hmode : ∀ m : BitVec 2, (c.crb.extractLsb' 5 2 == m) = (c.crb.toNat / 32 % 4 == m.toNat) := fun m => by
    rw [Bool.eq_iff_iff, beq_iff_eq, beq_iff_eq, ← BitVec.toNat_inj, BitVec.extractLsb'_toNat, Nat.shiftRight_eq_div_pow]
  rw [Cia.runsB, Cia.countsB, hmode, hmode]
  rfl

/-- A timer after a CIA tick (R353). -/
def timerAfter (runs : Bool) (t latch : Word) : Word := if runs && t == 0 then latch else if runs then t - 1 else t

/-- A control register after an underflow of its timer: a one-shot timer stops (R353). -/
def controlAfter (underflow : Bool) (cr : Byte) : Byte := if underflow && cr.getLsbD 3 then cr &&& 0xFE else cr

/-- Timer A's part of a CIA tick: the flag last, so that the line sees it (R353). -/
theorem Cia.tickA_eq (c : Cia) :
    c.tickA = ({ c with ta := timerAfter c.runsA c.ta c.taLatch, cra := controlAfter c.underflowA c.cra } : Cia).flagIf
      c.underflowA 0 := by
  rw [Cia.underflowA_eq, Cia.tickA, ← Cia.runsA]
  cases c.runsA with
  | false => rfl
  | true =>
    cases hzero : c.ta == 0 with
    | false => simp only [beq_eq_false_iff_ne.1 hzero, hzero, timerAfter, controlAfter, Cia.flagIf]; rfl
    | true =>
      simp only [beq_iff_eq.1 hzero, timerAfter, controlAfter, Cia.flagIf, Cia.icrSet, Cia.raiseLine_eq]
      cases c.cra.getLsbD 3 <;> rfl

/-- Timer B's part of a CIA tick, as `Cia.tickA_eq` (R353). -/
theorem Cia.tickB_eq (uf : Bool) (c : Cia) :
    c.tickB uf = ({ c with
      tb := timerAfter (c.crb.getLsbD 0 && c.countsB uf) c.tb c.tbLatch
      crb := controlAfter (c.crb.getLsbD 0 && c.countsB uf && c.tb == 0) c.crb } : Cia).flagIf
        (c.crb.getLsbD 0 && c.countsB uf && c.tb == 0) 1 := by
  rw [Cia.tickB]
  cases c.crb.getLsbD 0 && c.countsB uf with
  | false => rfl
  | true =>
    cases hzero : c.tb == 0 with
    | false => simp only [beq_eq_false_iff_ne.1 hzero, hzero, timerAfter, controlAfter, Cia.flagIf]; rfl
    | true =>
      simp only [beq_iff_eq.1 hzero, timerAfter, controlAfter, Cia.flagIf, Cia.icrSet, Cia.raiseLine_eq]
      cases c.crb.getLsbD 3 <;> rfl

/-- A CIA tick: both timers go on, and then the flags of their underflows are set (R353). -/
theorem Cia.timerTick_eq (c : Cia) :
    c.timerTick = { c with
      ta := timerAfter c.runsA c.ta c.taLatch
      tb := timerAfter c.runsB c.tb c.tbLatch
      cra := controlAfter c.underflowA c.cra
      crb := controlAfter c.underflowB c.crb
      icrData := flagsAfter (flagsAfter c.icrData c.underflowA 0) c.underflowB 1
      irq := c.irq || ((c.underflowA || c.underflowB)
        && flagsAfter (flagsAfter c.icrData c.underflowA 0) c.underflowB 1 &&& c.icrMask != 0) } := by
  have hflags : c.timerTick = (({ c with
      ta := timerAfter c.runsA c.ta c.taLatch
      tb := timerAfter c.runsB c.tb c.tbLatch
      cra := controlAfter c.underflowA c.cra
      crb := controlAfter c.underflowB c.crb } : Cia).flagIf c.underflowA 0).flagIf c.underflowB 1 := by
    rw [Cia.timerTick, Cia.tickB_eq, Cia.tickA_eq]
    simp only [Cia.flagIf_eq]
    rfl
  rw [hflags, Cia.flagIf_flagIf]

theorem Cia.timerTick_ta (c : Cia) : c.timerTick.ta = timerAfter c.runsA c.ta c.taLatch := by rw [Cia.timerTick_eq]

theorem Cia.timerTick_tod (c : Cia) : c.timerTick.tod = c.tod := by rw [Cia.timerTick_eq]

/-- A CIA tick sets the flags of the timers that underflow and keeps the others (R353). -/
theorem Cia.getLsbD_timerTick_icrData (c : Cia) (b : Fin 5) :
    c.timerTick.icrData.getLsbD b = (c.icrData.getLsbD b || (b == 0 && c.underflowA) || (b == 1 && c.underflowB)) := by
  rw [Cia.timerTick_eq]
  exact (getLsbD_flagsAfter _ _ b 1).trans (congrArg (· || _) (getLsbD_flagsAfter _ _ b 0))

/-! ### A timer that counts ticks -/

/-- Timer A is started, counts ticks and reloads from `latch`. -/
def CountsTicksA (latch : Word) (c : Cia) : Prop := c.runsA ∧ c.taLatch = latch

/-- Timer B is started, counts ticks and reloads from `latch`. -/
def CountsTicksB (latch : Word) (c : Cia) : Prop :=
  c.crb.getLsbD 0 ∧ c.crb.toNat / 32 % 4 = 0 ∧ c.tbLatch = latch

theorem CountsTicksB.runsB {latch : Word} {c : Cia} (h : CountsTicksB latch c) : c.runsB := by
  obtain ⟨hstart, hmode, -⟩ := h
  simp [Cia.runsB_eq, hstart, hmode]

theorem timerAfter_of_ne_zero {t : Word} (h : t ≠ 0) (latch : Word) : timerAfter true t latch = t - 1 := by
  rw [timerAfter, beq_eq_false_iff_ne.2 h]
  rfl

theorem CountsTicksA.step {latch : Word} {c : Cia} (h : CountsTicksA latch c) (hne : c.ta ≠ 0) :
    CountsTicksA latch c.timerTick ∧ c.timerTick.ta = c.ta - 1 := by
  obtain ⟨hrun, hlatch⟩ := h
  have huf : c.underflowA = false := by rw [Cia.underflowA_eq, beq_eq_false_iff_ne.2 hne, Bool.and_false]
  rw [Cia.timerTick_eq, hrun, timerAfter_of_ne_zero hne, huf]
  exact ⟨⟨hrun, hlatch⟩, rfl⟩

theorem CountsTicksB.step {latch : Word} {c : Cia} (h : CountsTicksB latch c) (hne : c.tb ≠ 0) :
    CountsTicksB latch c.timerTick ∧ c.timerTick.tb = c.tb - 1 := by
  have huf : c.underflowB = false := by rw [Cia.underflowB, beq_eq_false_iff_ne.2 hne, Bool.and_false]
  rw [Cia.timerTick_eq, h.runsB, timerAfter_of_ne_zero hne, huf]
  exact ⟨h, rfl⟩

theorem CountsTicksA.reload {latch : Word} {c : Cia} (h : CountsTicksA latch c) (hzero : c.ta = 0) :
    c.timerTick.ta = latch ∧ c.timerTick.icrData.getLsbD (0 : Fin 5) := by
  obtain ⟨hrun, hlatch⟩ := h
  have huf : c.underflowA := by simp [Cia.underflowA_eq, hrun, hzero]
  refine ⟨?_, by rw [Cia.getLsbD_timerTick_icrData, huf]; simp⟩
  rw [Cia.timerTick_ta, hrun, hzero, hlatch]
  rfl

theorem CountsTicksB.reload {latch : Word} {c : Cia} (h : CountsTicksB latch c) (hzero : c.tb = 0) :
    c.timerTick.tb = latch ∧ c.timerTick.icrData.getLsbD (1 : Fin 5) := by
  have hrun := h.runsB
  have huf : c.underflowB := by simp [Cia.underflowB, hrun, hzero]
  refine ⟨?_, by rw [Cia.getLsbD_timerTick_icrData, huf]; simp⟩
  obtain ⟨-, -, hlatch⟩ := h
  rw [Cia.timerTick_eq, hrun, hzero, hlatch]
  rfl

section
variable {Counts : Cia → Prop} {timer : Cia → Word} {latch : Word} {flag : Fin 5}

/-- A timer that a CIA tick takes down by one, and reloads at 0, goes down from `N` for `N` ticks and reloads in the next
(R353). -/
theorem iterate_timerTick_counts_reloads
    (hstep : ∀ c, Counts c → timer c ≠ 0 → Counts c.timerTick ∧ timer c.timerTick = timer c - 1)
    (hreload : ∀ c, Counts c → timer c = 0 → timer c.timerTick = latch ∧ c.timerTick.icrData.getLsbD flag) {c : Cia}
    (hc : Counts c) :
    (∀ k, k ≤ (timer c).toNat → (timer (Cia.timerTick^[k] c)).toNat = (timer c).toNat - k)
      ∧ timer (Cia.timerTick^[(timer c).toNat + 1] c) = latch
      ∧ (Cia.timerTick^[(timer c).toNat + 1] c).icrData.getLsbD flag := by
  have hcounts : ∀ k, k ≤ (timer c).toNat →
      Counts (Cia.timerTick^[k] c) ∧ (timer (Cia.timerTick^[k] c)).toNat = (timer c).toNat - k := fun k hk => by
    induction k with
    | zero => exact ⟨hc, rfl⟩
    | succ k ih =>
      obtain ⟨hbefore, hval⟩ := ih (by omega)
      have hpos : timer (Cia.timerTick^[k] c) ≠ 0 := by bv_omega
      obtain ⟨hnext, hdown⟩ := hstep _ hbefore hpos
      rw [Function.iterate_succ_apply', hdown]
      exact ⟨hnext, by bv_omega⟩
  refine ⟨fun k hk => (hcounts k hk).2, ?_⟩
  obtain ⟨hend, hval⟩ := hcounts _ (Nat.le_refl _)
  rw [Function.iterate_succ_apply']
  exact hreload _ hend (BitVec.eq_of_toNat_eq (hval.trans (Nat.sub_self _)))

end

theorem CountsTicksA.countdown {latch : Word} {c : Cia} (h : CountsTicksA latch c) :
    (∀ k, k ≤ c.ta.toNat → (Cia.timerTick^[k] c).ta.toNat = c.ta.toNat - k)
      ∧ (Cia.timerTick^[c.ta.toNat + 1] c).ta = latch
      ∧ (Cia.timerTick^[c.ta.toNat + 1] c).icrData.getLsbD (0 : Fin 5) :=
  iterate_timerTick_counts_reloads (timer := Cia.ta) (fun _ => CountsTicksA.step) (fun _ => CountsTicksA.reload) h

theorem CountsTicksB.countdown {latch : Word} {c : Cia} (h : CountsTicksB latch c) :
    (∀ k, k ≤ c.tb.toNat → (Cia.timerTick^[k] c).tb.toNat = c.tb.toNat - k)
      ∧ (Cia.timerTick^[c.tb.toNat + 1] c).tb = latch
      ∧ (Cia.timerTick^[c.tb.toNat + 1] c).icrData.getLsbD (1 : Fin 5) :=
  iterate_timerTick_counts_reloads (timer := Cia.tb) (fun _ => CountsTicksB.step) (fun _ => CountsTicksB.reload) h

/-! ### Event counters -/

theorem Cia.todPulse_eq (c : Cia) :
    c.todPulse = ({ c with tod := c.tod + 1 } : Cia).flagIf (c.tod + 1 == c.alarm) 2 := by
  unfold Cia.todPulse Cia.flagIf
  simp only [beq_iff_eq]

theorem Cia.todPulse_tod (c : Cia) : c.todPulse.tod = c.tod + 1 := by rw [Cia.todPulse_eq, Cia.flagIf_eq]

theorem Cia.todPulse_ta (c : Cia) : c.todPulse.ta = c.ta := by rw [Cia.todPulse_eq, Cia.flagIf_eq]

/-- An event counter's pulse leaves timer A's next count alone (R351). -/
theorem Cia.todPulse_timerTick_ta (c : Cia) : c.todPulse.timerTick.ta = c.timerTick.ta := by
  rw [Cia.timerTick_ta, Cia.timerTick_ta, Cia.todPulse_eq, Cia.flagIf_eq]
  rfl

/-- The event counter counts modulo 2^24 (R356). -/
theorem tod_succ (t : BitVec 24) : t + 1 = BitVec.ofNat 24 ((t.toNat + 1) % 16777216) := by
  apply BitVec.eq_of_toNat_eq
  simp

/-! ### Register accesses -/

/-- A write of timer A's high byte loads a stopped or one-shot timer and starts a one-shot one (R352). -/
theorem Cia.writeTaHi_eq (c : Cia) (v : Byte) :
    c.writeTaHi v = { c with
      taLatch := v ++ c.taLatch.extractLsb' 0 8
      ta := if c.cra.getLsbD 0 = false ∨ c.cra.getLsbD 3 then v ++ c.taLatch.extractLsb' 0 8 else c.ta
      cra := if c.cra.getLsbD 3 then c.cra ||| 1 else c.cra } := by
  simp only [Cia.writeTaHi, Bool.or_eq_true, Bool.not_eq_true']
  rfl

/-- A write of timer B's high byte does the same (R352). -/
theorem Cia.writeTbHi_eq (c : Cia) (v : Byte) :
    c.writeTbHi v = { c with
      tbLatch := v ++ c.tbLatch.extractLsb' 0 8
      tb := if c.crb.getLsbD 0 = false ∨ c.crb.getLsbD 3 then v ++ c.tbLatch.extractLsb' 0 8 else c.tb
      crb := if c.crb.getLsbD 3 then c.crb ||| 1 else c.crb } := by
  simp only [Cia.writeTbHi, Bool.or_eq_true, Bool.not_eq_true']
  rfl

/-- The bytes of an event counter as a table of its three forms (R352). -/
theorem setTodByte_eq (x : BitVec 24) (k : Fin 3) (v : Byte) :
    setTodByte x k v
      = #v[x.extractLsb' 8 16 ++ v, x.extractLsb' 16 8 ++ v ++ x.extractLsb' 0 8, v ++ x.extractLsb' 0 16][k] := by
  fin_cases k <;> rfl

/-- Register 13 as a number: the line in bit 7, the flags below (R357). -/
theorem Cia.icrValue_setWidth (c : Cia) :
    c.icrValue.setWidth 32 = BitVec.ofNat 32 (128 * c.irq.toNat + c.icrData.toNat) := by
  apply BitVec.eq_of_toNat_eq
  have hdata := c.icrData.isLt
  have hvalue : c.icrValue.toNat = 128 * c.irq.toNat + c.icrData.toNat := by
    have hhigh : (BitVec.ofBool c.irq ++ (0 : BitVec 2)).toNat = 4 * c.irq.toNat := by cases c.irq <;> rfl
    rw [Cia.icrValue, BitVec.toNat_append, ← Nat.shiftLeft_add_eq_or_of_lt hdata, hhigh, Nat.shiftLeft_eq]
    omega
  rw [BitVec.toNat_setWidth, hvalue, BitVec.toNat_ofNat]

/-- A write of register 13 moves the mask bits that it selects to its bit 7 (R357). -/
theorem Cia.getLsbD_icrWrite_icrMask (c : Cia) (v : Byte) (b : Fin 5) :
    (c.icrWrite v).icrMask.getLsbD b = if v.getLsbD b then v.getLsbD 7 else c.icrMask.getLsbD b := by
  have hpick : (v.extractLsb' 0 5).getLsbD b = v.getLsbD b := by simp [b.isLt]
  rw [Cia.icrWrite, Cia.raiseLine_eq]
  dsimp only
  cases v.getLsbD 7 with
  | true =>
    rw [if_pos rfl, BitVec.getLsbD_or, hpick]
    cases v.getLsbD b <;> simp
  | false =>
    rw [if_neg Bool.false_ne_true, BitVec.getLsbD_and, BitVec.getLsbD_not, hpick]
    cases v.getLsbD b <;> simp [b.isLt]

theorem Cia.icrWrite_irq (c : Cia) (v : Byte) :
    (c.icrWrite v).irq = (c.irq || decide (c.icrData &&& (c.icrWrite v).icrMask ≠ 0)) := by
  rw [Cia.icrWrite, Cia.raiseLine_eq]
  exact congrArg (c.irq || ·) (Bool.eq_iff_iff.2 (by rw [bne_iff_ne, decide_eq_true_iff]))

end Sys2Proof.Machine
end

section
/-! The CIAs over a tick of the machine (R351, R359), and the statement about their timers, counters, flags and lines. -/

namespace Sys2Proof.Machine

/-! ### Phase 6 up to the drives' ticks -/

theorem todPulses_ciaDiv (s : State) : (todPulses s).ciaDiv = s.ciaDiv := by
  rw [todPulses_touches]
  rfl

/-- CIA A's counter moves at a field start (R351). -/
theorem todPulses_ciaA (s : State) :
    (todPulses s).ciaA = if s.beam.hpos = 0 ∧ s.beam.vpos = 0 then s.ciaA.todPulse else s.ciaA := by
  unfold todPulses
  dsimp only
  split
  · rename_i hline
    split
    · rename_i hfield
      rw [if_pos ⟨hline, hfield⟩]
      rfl
    · rename_i hfield
      rw [if_neg fun h => hfield h.2]
      rfl
  · rename_i hline
    rw [if_neg fun h => hline h.1]

/-- CIA B's counter moves at a line start (R351). -/
theorem todPulses_ciaB (s : State) :
    (todPulses s).ciaB = if s.beam.hpos = 0 then s.ciaB.todPulse else s.ciaB := by
  unfold todPulses
  dsimp only
  split
  · split <;> rfl
  · rfl

/-- The divider counts modulo 10, and the timers get a CIA tick when it wraps (R351). -/
theorem ciaDivide_eq {s : State} (h : s.ciaDiv.toNat < 10) :
    (ciaDivide s).ciaDiv.toNat = (s.ciaDiv.toNat + 1) % 10
      ∧ (ciaDivide s).ciaA = (if s.ciaDiv.toNat = 9 then s.ciaA.timerTick else s.ciaA)
      ∧ (ciaDivide s).ciaB = (if s.ciaDiv.toNat = 9 then s.ciaB.timerTick else s.ciaB) := by
  have hwrap : s.ciaDiv + 1 = ciaDivider ↔ s.ciaDiv.toNat = 9 := by
    rw [ciaDivider]
    bv_omega
  unfold ciaDivide
  by_cases h9 : s.ciaDiv.toNat = 9
  · rw [if_pos (hwrap.2 h9), if_pos h9, if_pos h9, h9]
    exact ⟨rfl, rfl, rfl⟩
  · rw [if_neg (mt hwrap.1 h9), if_neg h9, if_neg h9]
    refine ⟨?_, rfl, rfl⟩
    rw [State.withCiaDiv_ciaDiv]
    bv_omega

/-- The drives' index pulses set a flag of CIA B and leave its timer A and its counter alone (R295, R358). -/
theorem driveTicks_ciaB_counts (s : State) :
    (driveTicks s).ciaB.ta = s.ciaB.ta ∧ (driveTicks s).ciaB.tod = s.ciaB.tod := by
  by_cases hp : IndexPulse s
  · rw [driveTicks_ciaB_of_pulse hp, Cia.icrSet_four]
    exact ⟨rfl, rfl⟩
  · rw [driveTicks_ciaB_of_not_pulse hp]
    exact ⟨rfl, rfl⟩

/-- The drives' ticks leave the divider and CIA A alone (R295). -/
theorem driveTicks_ciaDiv_ciaA (s : State) : (driveTicks s).ciaDiv = s.ciaDiv ∧ (driveTicks s).ciaA = s.ciaA := by
  rw [driveTicks_touches]
  simp only [State.withCiaB_ciaDiv, State.withDrives_ciaDiv, State.withCiaB_ciaA, State.withDrives_ciaA, and_self]

/-- What phase 6 leaves of the divider, the timers A and the counters is what the counters and the divider make (R351). -/
theorem ciaAndDriveTick_counts (s : State) :
    (ciaAndDriveTick s).ciaDiv = (ciaDivide (todPulses s)).ciaDiv ∧ (ciaAndDriveTick s).ciaA = (ciaDivide (todPulses s)).ciaA
      ∧ (ciaAndDriveTick s).ciaB.ta = (ciaDivide (todPulses s)).ciaB.ta
      ∧ (ciaAndDriveTick s).ciaB.tod = (ciaDivide (todPulses s)).ciaB.tod := by
  obtain ⟨hdiv, hA⟩ := driveTicks_ciaDiv_ciaA (ciaDivide (todPulses s))
  obtain ⟨hta, htod⟩ := driveTicks_ciaB_counts (ciaDivide (todPulses s))
  rw [ciaAndDriveTick, ciaIrqLines_touches]
  exact ⟨hdiv, hA, hta, htod⟩

/-! ### The interrupt lines -/

theorem Irq.raise_zero_requests (q : Irq) (b : Fin 14) : (q.raise b 0).intreq.getLsbD b := by
  rw [Irq.raise, if_pos rfl]
  exact (getLsbD_setBit _ _ _ _ b.isLt).trans (if_pos rfl)

/-- Raising a request takes none back (R372). -/
theorem Irq.raise_keeps_request {q : Irq} {i : Nat} (h : q.intreq.getLsbD i) (b : Fin 14) (d : Byte) :
    (q.raise b d).intreq.getLsbD i := by
  unfold Irq.raise
  split
  · simp only [setBit, if_true, BitVec.getLsbD_or, h, Bool.true_or]
  · split <;> exact h

/-- A line that is up raises its CIA's request (R359). -/
theorem ciaIrqLines_requests (s : State) :
    (s.ciaA.irq → (ciaIrqLines s).irq.intreq.getLsbD 3) ∧ (s.ciaB.irq → (ciaIrqLines s).irq.intreq.getLsbD 13) := by
  unfold ciaIrqLines
  dsimp only
  refine ⟨fun hA => ?_, fun hB => ?_⟩
  · have hraised := s.irq.raise_zero_requests irqPorts
    rw [if_pos hA]
    split
    · exact Irq.raise_keeps_request hraised _ _
    · exact hraised
  · rw [if_pos (by split <;> exact hB)]
    exact Irq.raise_zero_requests _ irqExter

/-- The beam's advance takes no request back (R150). -/
theorem beamAdvance_keeps_request {s : State} {i : Nat} (h : s.irq.intreq.getLsbD i) :
    (beamAdvance s).irq.intreq.getLsbD i := by
  unfold beamAdvance nextLine
  split
  · split
    · exact Irq.raise_keeps_request (q := s.irq) h _ _
    · exact h
  · exact h

/-- The phases after the lines are looked at leave the CIAs alone and take no request back (R120). -/
theorem tickEnd_beamAdvance_audioMixIfDue_irqLines (wants : Bool) (s : State) :
    (tickEnd wants (beamAdvance (audioMixIfDue s))).ciaA = s.ciaA
      ∧ (tickEnd wants (beamAdvance (audioMixIfDue s))).ciaB = s.ciaB
      ∧ ∀ i, s.irq.intreq.getLsbD i → (tickEnd wants (beamAdvance (audioMixIfDue s))).irq.intreq.getLsbD i := by
  have hmix : (audioMixIfDue s).ciaA = s.ciaA ∧ (audioMixIfDue s).ciaB = s.ciaB ∧ (audioMixIfDue s).irq = s.irq := by
    rw [audioMixIfDue_touches]
    exact ⟨rfl, rfl, rfl⟩
  obtain ⟨hA, hB, hirq⟩ := hmix
  rw [← hA, ← hB, ← hirq]
  generalize audioMixIfDue s = u
  refine ⟨?_, ?_, fun i hi => beamAdvance_keeps_request hi⟩
  all_goals
    rw [beamAdvance_touches]
    simp [tickEnd]

/-- At the end of a tick the request bit of a CIA whose line is up is set (R359). -/
theorem tick_requests {wants : Bool} {s t : State} (h : tick wants s = .next t) :
    (t.ciaA.irq → t.irq.intreq.getLsbD 3) ∧ (t.ciaB.irq → t.irq.intreq.getLsbD 13) := by
  obtain ⟨v, -, hvt⟩ := (andThen_eq_next_iff _ _ _).1 h
  rw [← Host.Outcome.next.inj hvt, tickRest, ciaAndDriveTick]
  generalize driveTicks _ = w
  obtain ⟨hA, hB, hkeep⟩ := tickEnd_beamAdvance_audioMixIfDue_irqLines wants (ciaIrqLines w)
  obtain ⟨hreqA, hreqB⟩ := ciaIrqLines_requests w
  have hlinesA : (ciaIrqLines w).ciaA = w.ciaA := by rw [ciaIrqLines_touches]; rfl
  have hlinesB : (ciaIrqLines w).ciaB = w.ciaB := by rw [ciaIrqLines_touches]; rfl
  rw [hA, hB, hlinesA, hlinesB]
  exact ⟨fun hup => hkeep _ (hreqA hup), fun hup => hkeep _ (hreqB hup)⟩

/-! ### A tick -/

/-- A tick moves the divider and the counters, and timer A when the divider wraps (R351). -/
theorem tick_ciaCounts {wants : Bool} {s t : State} (h : tick wants s = .next t) (hdiv : s.ciaDiv.toNat < 10) :
    t.ciaDiv.toNat = (s.ciaDiv.toNat + 1) % 10
      ∧ t.ciaA.ta = (if s.ciaDiv.toNat = 9 then s.ciaA.timerTick.ta else s.ciaA.ta)
      ∧ t.ciaB.ta = (if s.ciaDiv.toNat = 9 then s.ciaB.timerTick.ta else s.ciaB.ta)
      ∧ t.ciaB.tod = (if s.beam.hpos = 0 then s.ciaB.tod + 1 else s.ciaB.tod)
      ∧ t.ciaA.tod = (if s.beam.hpos = 0 ∧ s.beam.vpos = 0 then s.ciaA.tod + 1 else s.ciaA.tod) := by
  obtain ⟨u, hoff, hciaA, hciaB, hciaDiv, -⟩ := tick_phase6 h
  simp only [State.offBus, OffBus.mk.injEq] at hoff
  obtain ⟨-, hbeam, hA, hB, hd, -⟩ := hoff
  obtain ⟨hcountDiv, hcountA, hcountTaB, hcountTodB⟩ := ciaAndDriveTick_counts u
  have hudiv : (todPulses u).ciaDiv = s.ciaDiv := (todPulses_ciaDiv u).trans hd
  obtain ⟨hdivide, hdivideA, hdivideB⟩ := ciaDivide_eq (s := todPulses u) (hudiv ▸ hdiv)
  rw [hciaA, hciaB, hciaDiv, hcountDiv, hcountA, hcountTaB, hcountTodB, hdivide, hdivideA, hdivideB, hudiv, todPulses_ciaA,
    todPulses_ciaB, hbeam, hA, hB]
  refine ⟨rfl, ?_, ?_, ?_, ?_⟩
  all_goals
    split_ifs <;> simp only [Cia.todPulse_timerTick_ta, Cia.todPulse_ta, Cia.timerTick_tod, Cia.todPulse_tod]

/-! ### Register accesses of the host -/

/-- A read of register 13 returns the line and the flags and clears both (R352, R357). -/
theorem hostCall_readFlags (i : CiaId) (s : State) :
    ∃ t, hostCall (.ciaRead i 13) s = .next t
      ∧ t.out.reply = some (BitVec.ofNat 32 (128 * (s.cia i).irq.toNat + (s.cia i).icrData.toNat))
      ∧ t.cia i = { s.cia i with icrData := 0, irq := false } := by
  refine ⟨_, rfl, ?_, ?_⟩
  · rw [← Cia.icrValue_setWidth]
    cases i <;> rfl
  · cases i <;> rfl

/-- A write of register 13 sets or clears mask bits and raises the line by the new mask (R352, R357). -/
theorem hostCall_writeFlags (i : CiaId) (v : Byte) (s : State) :
    ∃ t, hostCall (.ciaWrite i 13 v) s = .next t
      ∧ (∀ b : Fin 5, (t.cia i).icrMask.getLsbD b = if v.getLsbD b then v.getLsbD 7 else (s.cia i).icrMask.getLsbD b)
      ∧ (t.cia i).irq = ((s.cia i).irq || decide ((s.cia i).icrData &&& (t.cia i).icrMask ≠ 0)) := by
  have hcia : (ciaWrite i 13 v (s.withOut StepOut.empty)).cia i = (s.cia i).icrWrite v := by cases i <;> rfl
  refine ⟨_, rfl, ?_⟩
  rw [hcia]
  exact ⟨(s.cia i).getLsbD_icrWrite_icrMask v, (s.cia i).icrWrite_irq v⟩

/-! ### The statement -/

/-- Settles O54: the timers by the one equation of a CIA tick and an induction over ticks, the counters by `todPulse_eq`, a tick of
the machine by its phase 6, and the register accesses one by one. -/
theorem ciaTimersFlagsAndLines : Obligations.CiaTimersFlagsAndLines := by
  unfold Obligations.CiaTimersFlagsAndLines
  refine ⟨fun c k hstart hmode => ?countsA, fun c k hstart hmode => ?countsB, fun c => ?tick, fun c => ?counter,
    fun wants s t ht hdiv => ?machine, fun i v k s => ?write, fun i v s => ?flags⟩
  case countsA =>
    have hcounts : CountsTicksA c.taLatch c := ⟨by rw [Cia.runsA, hstart, hmode]; rfl, rfl⟩
    obtain ⟨hdown, hreload⟩ := hcounts.countdown
    refine ⟨hdown k, ?_⟩
    rintro rfl
    exact hreload
  case countsB =>
    have hcounts : CountsTicksB c.tbLatch c := ⟨hstart, hmode, rfl⟩
    obtain ⟨hdown, hreload⟩ := hcounts.countdown
    refine ⟨hdown k, ?_⟩
    rintro rfl
    exact hreload
  case tick =>
    intro onA ufA onB ufB t
    have hB : c.runsB = onB := c.runsB_eq
    have hufB : c.underflowB = ufB := by rw [Cia.underflowB, hB]
    refine ⟨?_, fun b => by rw [← hufB]; exact c.getLsbD_timerTick_icrData b⟩
    rw [← hufB, ← hB]
    simp only [t, c.timerTick_eq]
    rfl
  case counter =>
    intro n hit t
    have hn : c.tod + 1 = n := tod_succ c.tod
    have ht : t = ({ c with tod := n } : Cia).flagIf hit 2 := c.todPulse_eq.trans (by rw [hn])
    rw [ht, Cia.flagIf_eq]
    exact ⟨rfl, fun b => getLsbD_flagsAfter _ _ b 2⟩
  case machine =>
    obtain ⟨hcount, htaA, htaB, htodB, htodA⟩ := tick_ciaCounts ht hdiv
    refine ⟨hcount, fun h9 => ?_, fun h9 => ?_, htodB, htodA, tick_requests ht⟩
    · rw [htaA, htaB, if_neg h9, if_neg h9]
      exact ⟨rfl, rfl⟩
    · rw [htaA, htaB, if_pos h9, if_pos h9]
      exact ⟨rfl, rfl⟩
  case write =>
    intro c answer ta tb put
    have hc : (s.withOut StepOut.empty).cia i = c := by cases i <;> rfl
    refine ⟨by rw [← hc]; rfl, by rw [← hc]; rfl, ?_, ?_, by rw [← hc]; rfl, by rw [← hc]; rfl, ?_⟩
    · rw [← c.writeTaHi_eq v, ← hc]
      rfl
    · rw [← c.writeTbHi_eq v, ← hc]
      rfl
    · simp only [answer, put, ← setTodByte_eq, c, ← hc]
      fin_cases k <;> rfl
  case flags => exact ⟨hostCall_readFlags i s, hostCall_writeFlags i v s⟩

end Sys2Proof.Machine
end

section
/-! Interrupt requests: raising, at once and with a delay (R372), and the countdowns (R374). -/

namespace Sys2Proof.Machine

/-! ### Raising -/

theorem getLsbD_setBit_true (x : BitVec 14) (b j : Fin 14) :
    (setBit x b.val true).getLsbD j = (x.getLsbD j || decide (j = b)) := by
  rw [getLsbD_setBit _ _ _ _ j.isLt]
  by_cases hjb : j = b <;> simp [hjb, Fin.val_inj]

theorem Irq.raise_now (q : Irq) (b : Fin 14) : q.raise b 0 = { q with intreq := setBit q.intreq b.val true } := if_pos rfl

/-- A running countdown takes the new request up (R372). -/
theorem Irq.raise_of_running {q : Irq} {b : Fin 14} {d : Byte} (hd : d ≠ 0) (hrun : q.countdown[b] ≠ 0) : q.raise b d = q := by
  rw [Irq.raise, if_neg hd, if_neg hrun]

theorem Irq.raise_of_idle {q : Irq} {b : Fin 14} {d : Byte} (hd : d ≠ 0) (hidle : q.countdown[b] = 0) :
    q.raise b d = { q with countdown := q.countdown.set b d } := by
  rw [Irq.raise, if_neg hd, if_pos hidle]

/-! ### One countdown -/

theorem mem_irqBits (b : Fin 14) : b ∈ irqBits := by decide +revert

/-- Setting the bits of a list that meet `p`, one after the other, sets just these. -/
theorem getLsbD_foldl_setBit (p : Fin 14 → Prop) [DecidablePred p] (bs : List (Fin 14)) (x : BitVec 14) (j : Fin 14) :
    (bs.foldl (fun r b => if p b then setBit r b.val true else r) x).getLsbD j = (x.getLsbD j || decide (j ∈ bs ∧ p j)) := by
  induction bs generalizing x with
  | nil => simp
  | cons b bs ih =>
    have hhead : (if p b then setBit x b.val true else x).getLsbD j = (x.getLsbD j || decide (j = b ∧ p j)) := by
      by_cases hp : p b
      · have hset : j = b ∧ p j ↔ j = b := and_iff_left_of_imp fun hjb => hjb ▸ hp
        rw [if_pos hp, getLsbD_setBit_true, decide_eq_decide.2 hset]
      · have hkept : ¬(j = b ∧ p j) := fun ⟨hjb, hj⟩ => hp (hjb ▸ hj)
        rw [if_neg hp, decide_eq_false hkept, Bool.or_false]
    simp only [List.foldl_cons, ih, hhead, Bool.or_assoc, List.mem_cons, or_and_right, Bool.decide_or]

/-- A countdown takes one from a running count (R374). -/
theorem Irq.countDown_count (q : Irq) (b : Fin 14) : q.countDown.countdown[b].toNat = q.countdown[b].toNat - 1 := by
  have hcount : q.countDown.countdown[b] = if q.countdown[b] = 0 then 0 else q.countdown[b] - 1 := by simp [Irq.countDown]
  rw [hcount]
  split
  case isTrue hzero => rw [hzero]; rfl
  case isFalse hrun => bv_omega

/-- A countdown sets the bits whose count ends (R374). -/
theorem Irq.countDown_request (q : Irq) (b : Fin 14) :
    q.countDown.intreq.getLsbD b = (q.intreq.getLsbD b || decide (q.countdown[b].toNat = 1)) := by
  have hone : q.countdown[b].toNat = 1 ↔ q.countdown[b] = 1 := BitVec.toNat_inj (y := 1)
  have hset := getLsbD_foldl_setBit (fun c => q.countdown[c] = 1) irqBits q.intreq b
  exact hset.trans (by simp only [mem_irqBits, true_and, hone])

/-! ### A run of countdowns -/

/-- A count of `c` is `c - k` after `k` countdowns, and its bit is newly set once they are `c` (R374). -/
theorem Irq.countDown_iterate (q : Irq) (b : Fin 14) (k : Nat) :
    (Irq.countDown^[k] q).countdown[b].toNat = q.countdown[b].toNat - k
      ∧ (Irq.countDown^[k] q).intreq.getLsbD b
        = (q.intreq.getLsbD b || decide (0 < q.countdown[b].toNat ∧ q.countdown[b].toNat ≤ k)) := by
  induction k with
  | zero =>
    have hnever : ¬(0 < q.countdown[b].toNat ∧ q.countdown[b].toNat ≤ 0) := by omega
    rw [decide_eq_false hnever, Bool.or_false]
    exact ⟨rfl, rfl⟩
  | succ k ih =>
    obtain ⟨hcount, hbit⟩ := ih
    have hended : (0 < q.countdown[b].toNat ∧ q.countdown[b].toNat ≤ k) ∨ q.countdown[b].toNat - k = 1
        ↔ 0 < q.countdown[b].toNat ∧ q.countdown[b].toNat ≤ k + 1 := by omega
    rw [Function.iterate_succ_apply', Irq.countDown_count, Irq.countDown_request, hcount, hbit, Bool.or_assoc, ← Bool.decide_or]
    exact ⟨Nat.sub_sub _ _ _, by simp only [hended]⟩

/-- A request raised with a delay while no count of its bit runs arrives at the last of its countdowns (R372, R374). -/
theorem Irq.raise_arrives {q : Irq} {b : Fin 14} {d : Byte} (hd : d ≠ 0) (hidle : q.countdown[b] = 0) {k : Nat}
    (hk : k ≤ d.toNat) :
    (Irq.countDown^[k] (q.raise b d)).countdown[b].toNat = d.toNat - k
      ∧ (Irq.countDown^[k] (q.raise b d)).intreq.getLsbD b = (q.intreq.getLsbD b || decide (k = d.toNat)) := by
  obtain ⟨hcount, hbit⟩ := (q.raise b d).countDown_iterate b k
  have hloaded : (q.raise b d).countdown[b] = d := by simp [Irq.raise_of_idle hd hidle]
  have hkept : (q.raise b d).intreq = q.intreq := by rw [Irq.raise_of_idle hd hidle]
  have hlast : 0 < d.toNat ∧ d.toNat ≤ k ↔ k = d.toNat := by bv_omega
  rw [hloaded] at hcount hbit
  rw [hkept] at hbit
  exact ⟨hcount, by simpa only [hlast] using hbit⟩

/-! ### The statement -/

/-- Settles O52: the three cases of raising, and an induction over countdowns whose step is the rule of one. -/
theorem delayedRequestsArriveWhenTheirCountEnds : Obligations.DelayedRequestsArriveWhenTheirCountEnds := by
  unfold Obligations.DelayedRequestsArriveWhenTheirCountEnds
  exact fun b d q => ⟨⟨_, q.raise_now b, getLsbD_setBit_true _ b⟩, Irq.raise_of_running,
    fun hd hidle => ⟨Irq.raise_of_idle hd hidle, fun _ => Irq.raise_arrives hd hidle⟩,
    q.countDown_count b, q.countDown_request b, rfl⟩

end Sys2Proof.Machine
end

section
/-! The interrupt level (R375, R376): the maximum over the enabled pending bits, and its way to the current level. -/

namespace Sys2Proof.Machine

/-! ### The greatest level -/

theorem le_maxLevel (a b : BitVec 3) : a.toNat ≤ (maxLevel a b).toNat ∧ b.toNat ≤ (maxLevel a b).toNat := by
  unfold maxLevel
  split <;> bv_omega

theorem maxLevel_eq_or (a b : BitVec 3) : maxLevel a b = a ∨ maxLevel a b = b := by
  unfold maxLevel
  split
  · exact .inr rfl
  · exact .inl rfl

section
variable {α : Type} (f : α → BitVec 3) (xs : List α) (l : BitVec 3)

theorem le_foldl_maxLevel :
    l.toNat ≤ (xs.foldl (fun l x => maxLevel l (f x)) l).toNat
      ∧ ∀ x ∈ xs, (f x).toNat ≤ (xs.foldl (fun l x => maxLevel l (f x)) l).toNat := by
  induction xs generalizing l with
  | nil => exact ⟨le_rfl, fun _ hx => nomatch hx⟩
  | cons y ys ih =>
    obtain ⟨hstart, hrest⟩ := ih (maxLevel l (f y))
    obtain ⟨hl, hy⟩ := le_maxLevel l (f y)
    exact ⟨hl.trans hstart, List.forall_mem_cons.2 ⟨hy.trans hstart, hrest⟩⟩

theorem foldl_maxLevel_eq_or :
    xs.foldl (fun l x => maxLevel l (f x)) l = l ∨ ∃ x, xs.foldl (fun l x => maxLevel l (f x)) l = f x := by
  induction xs generalizing l with
  | nil => exact .inl rfl
  | cons y ys ih =>
    rcases ih (maxLevel l (f y)) with hstart | hrest
    · exact (maxLevel_eq_or l (f y)).imp hstart.trans fun hy => ⟨y, hstart.trans hy⟩
    · exact .inr hrest

end

/-! ### The computed level -/

section
variable {k : Config} {q : Irq}

theorem irqLevel_of_disabled (hinten : q.intena.getLsbD 14 = false) : irqLevel k q = 0 :=
  if_neg (by rw [hinten]; exact Bool.false_ne_true)

theorem irqLevel_of_enabled (hinten : q.intena.getLsbD 14) :
    irqLevel k q = irqBits.foldl (fun l b => maxLevel l (irqBitLevel k q b)) 0 := if_pos hinten

theorem irqBitLevel_of_pending {b : Fin 14} (hena : q.intena.getLsbD b) (hreq : q.intreq.getLsbD b) :
    irqBitLevel k q b = k.iplTable[b] := if_pos (by rw [hena, hreq]; rfl)

theorem irqBitLevel_eq_or (k : Config) (q : Irq) (b : Fin 14) :
    irqBitLevel k q b = 0 ∨ q.intena.getLsbD b ∧ q.intreq.getLsbD b ∧ irqBitLevel k q b = k.iplTable[b] := by
  by_cases hpending : (q.intena.getLsbD b && q.intreq.getLsbD b) = true
  · obtain ⟨hena, hreq⟩ := Bool.and_eq_true_iff.1 hpending
    exact .inr ⟨hena, hreq, irqBitLevel_of_pending hena hreq⟩
  · exact .inl (if_neg hpending)

/-- No enabled pending bit has a level above the computed one (R376). -/
theorem iplTable_le_irqLevel (hinten : q.intena.getLsbD 14) {b : Fin 14} (hena : q.intena.getLsbD b)
    (hreq : q.intreq.getLsbD b) : k.iplTable[b].toNat ≤ (irqLevel k q).toNat := by
  obtain ⟨-, hmax⟩ := le_foldl_maxLevel (irqBitLevel k q) irqBits 0
  rw [irqLevel_of_enabled hinten, ← irqBitLevel_of_pending hena hreq]
  exact hmax b (mem_irqBits b)

/-- The computed level is 0 or that of an enabled pending bit (R376). -/
theorem irqLevel_eq_or (hinten : q.intena.getLsbD 14) :
    irqLevel k q = 0 ∨ ∃ b : Fin 14, q.intena.getLsbD b ∧ q.intreq.getLsbD b ∧ irqLevel k q = k.iplTable[b] := by
  rw [irqLevel_of_enabled hinten]
  rcases foldl_maxLevel_eq_or (irqBitLevel k q) irqBits 0 with hzero | ⟨b, hb⟩
  · exact .inl hzero
  · rw [hb]
    exact (irqBitLevel_eq_or k q b).imp id fun h => ⟨b, h⟩

end

/-! ### The update -/

/-- The delay after an update: loaded when the computed level is not the target, else one less (R376). -/
def Irq.nextDelay (k : Config) (q : Irq) : BitVec 2 :=
  if irqLevel k q ≠ q.iplTarget then k.iplLatency else if q.iplDelay = 0 then 0 else q.iplDelay - 1

theorem Irq.update_eq (k : Config) (q : Irq) :
    q.update k = { q with
      iplTarget := irqLevel k q
      iplDelay := q.nextDelay k
      iplCurrent := if q.nextDelay k = 0 then irqLevel k q else q.iplCurrent } := by
  unfold Irq.update Irq.nextDelay
  dsimp only
  by_cases hchange : irqLevel k q ≠ q.iplTarget
  · simp only [if_pos hchange]
    split <;> rfl
  · rw [if_neg hchange, if_neg hchange, not_not.1 hchange]
    by_cases hzero : q.iplDelay = 0
    · simp only [hzero, if_true]
    · simp only [if_neg hzero]
      split <;> rfl

/-- An update does not reach what the level is computed from (R376). -/
theorem irqLevel_update (k : Config) (q : Irq) : irqLevel k (q.update k) = irqLevel k q := by
  rw [Irq.update_eq]
  rfl

section
variable {k : Config} {q : Irq}

/-- The wait for a level that changed in the first update and holds: `j` updates later the delay is down by `j`, and the current
level changes when it is 0 (R376). -/
theorem Irq.update_iterate_of_change (hchange : irqLevel k q ≠ q.iplTarget) {j : Nat} (hj : j ≤ k.iplLatency.toNat) :
    irqLevel k ((Irq.update k)^[j + 1] q) = irqLevel k q
      ∧ ((Irq.update k)^[j + 1] q).iplTarget = irqLevel k q
      ∧ ((Irq.update k)^[j + 1] q).iplDelay.toNat = k.iplLatency.toNat - j
      ∧ ((Irq.update k)^[j + 1] q).iplCurrent = if j = k.iplLatency.toNat then irqLevel k q else q.iplCurrent := by
  induction j with
  | zero =>
    have hdelay : q.nextDelay k = k.iplLatency := if_pos hchange
    have hzero : k.iplLatency = 0 ↔ 0 = k.iplLatency.toNat := by bv_omega
    rw [Function.iterate_one, irqLevel_update, Irq.update_eq, hdelay]
    exact ⟨rfl, rfl, rfl, by simp only [hzero]⟩
  | succ j ih =>
    obtain ⟨hlvl, htarget, hdelay, hcurrent⟩ := ih (by omega)
    rw [Function.iterate_succ_apply', irqLevel_update, Irq.update_eq]
    generalize (Irq.update k)^[j + 1] q = r at *
    have hrun : r.iplDelay ≠ 0 := by bv_omega
    have hnext : r.nextDelay k = r.iplDelay - 1 := by
      rw [Irq.nextDelay, hlvl, htarget, if_neg (not_not.2 rfl), if_neg hrun]
    have hleft : (r.iplDelay - 1).toNat = k.iplLatency.toNat - (j + 1) := by bv_omega
    have hzero : r.iplDelay - 1 = 0 ↔ j + 1 = k.iplLatency.toNat := by bv_omega
    rw [if_neg (by omega)] at hcurrent
    rw [hnext, hlvl, hcurrent]
    exact ⟨rfl, rfl, hleft, by simp only [hzero]⟩

end

/-! ### The statement -/

/-- Settles O53: the level as a maximum over the bits, one equation for the update, and an induction over the updates that wait. -/
theorem levelIsTheMaximumAndArrivesAfterTheLatency : Obligations.LevelIsTheMaximumAndArrivesAfterTheLatency := by
  unfold Obligations.LevelIsTheMaximumAndArrivesAfterTheLatency
  refine fun k q => ⟨irqLevel_of_disabled, fun hinten => ⟨fun b => iplTable_le_irqLevel hinten, irqLevel_eq_or hinten⟩,
    q.update_eq k, fun hchange j => ⟨fun hj => ?waiting, fun hj => ?arrived⟩, rfl⟩
  case waiting =>
    obtain ⟨-, -, -, hcurrent⟩ := Irq.update_iterate_of_change hchange hj.le
    rw [hcurrent, if_neg hj.ne]
  case arrived =>
    obtain ⟨-, -, -, hcurrent⟩ := Irq.update_iterate_of_change hchange hj.le
    rw [hcurrent, if_pos hj]

end Sys2Proof.Machine
end

section
/-! The encoder against the decoder (R90 to R94, R98, R23, R205): the words of an encoding give back the fields they were made
of, and the fields of a word put together again give the word. -/

namespace Sys2Proof

/-! ### Words and bytes -/

theorem wordOfBytes_bytesOfWord (w : Word) : wordOfBytes (w.extractLsb' 8 8) (w.extractLsb' 0 8) = w :=
  BitVec.extractLsb'_append_extractLsb' (w := 8)

theorem bytesOfWord_wordOfBytes (hi lo : Byte) : bytesOfWord (wordOfBytes hi lo) = [hi, lo] := by
  rw [bytesOfWord, Machine.wordOfBytes_high, Machine.wordOfBytes_low]

theorem ofBool_getLsbD {n : Nat} (x : BitVec n) (i : Nat) : BitVec.ofBool (x.getLsbD i) = x.extractLsb' i 1 := by
  ext j hj
  obtain rfl : j = 0 := by omega
  simp

/-- A field and the bit below it. -/
theorem field_append_bit {n : Nat} (x : BitVec n) (i len : Nat) :
    x.extractLsb' (i + 1) len ++ BitVec.ofBool (x.getLsbD i) = x.extractLsb' i (len + 1) := by
  rw [ofBool_getLsbD, BitVec.extractLsb'_append_extractLsb'_eq_extractLsb' rfl]

theorem decode_copperWords (w1 w2 : Word) : decode (bytesOfWord w1 ++ bytesOfWord w2) = .ok (decodeCopper w1 w2) := by
  simp only [bytesOfWord, List.cons_append, List.nil_append, decode, wordOfBytes_bytesOfWord]

theorem decode_blitWord (c : Word) : decode (bytesOfWord c) = .ok (decodeBlitMode c) := by
  simp only [bytesOfWord, decode, wordOfBytes_bytesOfWord]

/-! ### A byte whose low bit is a selector (R93) -/

section
variable {x : Byte} (sel : Bool)

theorem even_or_selector (h : x &&& 0xFE = x) : (x ||| if sel then 1 else 0) &&& 0xFE = x := by
  have hsel : (if sel then 1 else 0 : Byte) &&& 0xFE = 0#8 := by cases sel <;> rfl
  rw [BitVec.and_or_distrib_right, h, hsel, BitVec.or_zero]

theorem getLsbD_zero_or_selector (h : x &&& 0xFE = x) : (x ||| if sel then 1 else 0).getLsbD 0 = sel := by
  have heven : x.getLsbD 0 = false := by
    rw [← h, BitVec.getLsbD_and]
    exact Bool.and_false _
  rw [BitVec.getLsbD_or, heven, Bool.false_or]
  cases sel <;> rfl

theorem evenPart_or_selector (h : x.getLsbD 0 = sel) : ((x &&& 0xFE) ||| if sel then 1 else 0) = x := by
  subst h
  revert x
  decide

end

/-! ### MOVE (R92) -/

section
variable {unused : BitVec 7} {off : Word}

theorem moveWord_unused (h : off &&& 0x01FE = off) : (moveWord unused off).extractLsb' 9 7 = unused := by
  have hoff : off.extractLsb' 9 7 = 0#7 := by
    rw [← h, BitVec.extractLsb'_and]
    exact BitVec.and_zero
  rw [moveWord, BitVec.extractLsb'_or, hoff, BitVec.extractLsb'_append_eq_left, BitVec.or_zero]

theorem moveWord_offset (h : off &&& 0x01FE = off) : moveWord unused off &&& 0x01FE = off := by
  have hunused : (unused ++ 0#9) &&& (0x01FE : Word) = 0#16 := by
    calc
      (unused ++ 0#9) &&& (0x01FE : Word) = (unused ++ 0#9) &&& (0#7 ++ 0x1FE#9) := rfl
      _ = (unused &&& 0#7) ++ (0#9 &&& 0x1FE#9) := BitVec.and_append
      _ = 0#16 := by rw [BitVec.and_zero]; rfl
  have hword : moveWord unused off = (unused ++ 0#9) ||| off := rfl
  rw [hword, BitVec.and_or_distrib_right, hunused, BitVec.zero_or, h]

theorem moveWord_selector (h : off &&& 0x01FE = off) : (moveWord unused off).getLsbD 0 = false := by
  have hoff : off.getLsbD 0 = false := by
    rw [← h, BitVec.getLsbD_and]
    exact Bool.and_false _
  rw [moveWord, BitVec.getLsbD_or, hoff, Bool.or_false, BitVec.getLsbD_append]
  rfl

/-- With the selector bit clear, the two fields are all of the word. -/
theorem moveWord_of_fields {w : Word} (h : w.getLsbD 0 = false) : moveWord (w.extractLsb' 9 7) (w &&& 0x01FE) = w := by
  have hhigh : w.extractLsb' 9 7 ++ 0#9 = w &&& (0xFE00 : Word) := by
    calc
      w.extractLsb' 9 7 ++ 0#9 = (w.extractLsb' 9 7 &&& BitVec.allOnes 7) ++ (w.extractLsb' 0 9 &&& 0#9) := by
        rw [BitVec.and_allOnes, BitVec.and_zero]
      _ = (w.extractLsb' 9 7 ++ w.extractLsb' 0 9) &&& (0xFE00 : Word) := BitVec.and_append.symm
      _ = w &&& 0xFE00 := congrArg (· &&& (0xFE00 : Word)) (BitVec.extractLsb'_append_extractLsb' (w := 7))
  have hlow : w &&& 1 = 0#16 := by
    show w &&& 1#16 = 0#16
    rw [BitVec.and_one_eq_setWidth_ofBool_getLsbD, h]
    rfl
  calc
    moveWord (w.extractLsb' 9 7) (w &&& 0x01FE) = (w &&& 0xFE00) ||| (w &&& 0x01FE) := congrArg (· ||| _) hhigh
    _ = w &&& 0xFE00 ||| (w &&& 0x01FE) ||| (w &&& 1) := by rw [hlow, BitVec.or_zero]
    _ = w &&& (0xFE00 ||| 0x01FE ||| 1) := by rw [BitVec.and_or_distrib_left, BitVec.and_or_distrib_left]
    _ = w := BitVec.and_allOnes

end

theorem decodeCopper_moveWord {unused : BitVec 7} {off : Word} (data : Word) (h : off &&& 0x01FE = off) :
    decodeCopper (moveWord unused off) data = .move unused off data := by
  rw [decodeCopper, if_pos (moveWord_selector h), moveOf, moveWord_unused h, moveWord_offset h]

/-! ### WAIT and SKIP (R93) -/

section
variable (vp : Byte) {hp he : Byte} (bfd sel : Bool) (ve : BitVec 7)

theorem beamTargetWord_high : (beamTargetWord vp hp).extractLsb' 8 8 = vp := BitVec.extractLsb'_append_eq_left

theorem beamTargetWord_horizontal (h : hp &&& 0xFE = hp) : (beamTargetWord vp hp).extractLsb' 0 8 &&& 0xFE = hp := by
  have hlow : (beamTargetWord vp hp).extractLsb' 0 8 = hp ||| 1 := BitVec.extractLsb'_append_eq_right
  rw [hlow]
  exact even_or_selector true h

theorem beamTargetWord_selector : (beamTargetWord vp hp).getLsbD 0 = true := by
  rw [beamTargetWord, BitVec.getLsbD_append, if_pos (by decide), BitVec.getLsbD_or]
  exact Bool.or_true _

theorem beamMaskWord_top : (beamMaskWord bfd ve he sel).getLsbD 15 = bfd := by
  rw [beamMaskWord, BitVec.getLsbD_append, if_neg (by decide), BitVec.getLsbD_append]
  exact BitVec.getLsbD_ofBool bfd 0

theorem beamMaskWord_vertical : (beamMaskWord bfd ve he sel).extractLsb' 8 7 = ve := by
  have hhigh : (beamMaskWord bfd ve he sel).extractLsb' 8 7 = (BitVec.ofBool bfd ++ ve).extractLsb' 0 7 :=
    BitVec.extractLsb'_append_eq_of_le (by decide)
  rw [hhigh, BitVec.extractLsb'_append_eq_right]

theorem beamMaskWord_horizontal (h : he &&& 0xFE = he) : (beamMaskWord bfd ve he sel).extractLsb' 0 8 &&& 0xFE = he := by
  have hlow : (beamMaskWord bfd ve he sel).extractLsb' 0 8 = he ||| if sel then 1 else 0 := BitVec.extractLsb'_append_eq_right
  rw [hlow, even_or_selector sel h]

theorem beamMaskWord_selector (h : he &&& 0xFE = he) : (beamMaskWord bfd ve he sel).getLsbD 0 = sel := by
  rw [beamMaskWord, BitVec.getLsbD_append, if_pos (by decide), getLsbD_zero_or_selector sel h]

/-- The fields of a WAIT or SKIP are those its words were made of, and the selector of the second word tells them apart. -/
theorem decodeCopper_beamWords (hhp : hp &&& 0xFE = hp) (hhe : he &&& 0xFE = he) :
    decodeCopper (beamTargetWord vp hp) (beamMaskWord bfd ve he sel)
      = if sel then .skip vp hp bfd ve he else .wait vp hp bfd ve he := by
  rw [decodeCopper, beamTargetWord_selector, beamMaskWord_selector bfd sel ve hhe, if_neg (nomatch ·)]
  simp only [waitOf, skipOf, beamTargetWord_high, beamTargetWord_horizontal vp hhp, beamMaskWord_top, beamMaskWord_vertical,
    beamMaskWord_horizontal bfd sel ve hhe]
  cases sel <;> rfl

end

/-- With the selector bit set, target and selector are all of the first word. -/
theorem beamTargetWord_of_fields {w : Word} (h : w.getLsbD 0) :
    beamTargetWord (w.extractLsb' 8 8) (w.extractLsb' 0 8 &&& 0xFE) = w := by
  have hlow : (w.extractLsb' 0 8).getLsbD 0 = true := by rw [BitVec.getLsbD_extractLsb', h]; rfl
  calc
    beamTargetWord (w.extractLsb' 8 8) (w.extractLsb' 0 8 &&& 0xFE) = w.extractLsb' 8 8 ++ w.extractLsb' 0 8 :=
      congrArg (w.extractLsb' 8 8 ++ ·) (evenPart_or_selector true hlow)
    _ = w := BitVec.extractLsb'_append_extractLsb' (w := 8)

theorem beamMaskWord_of_fields {w : Word} {sel : Bool} (h : w.getLsbD 0 = sel) :
    beamMaskWord (w.getLsbD 15) (w.extractLsb' 8 7) (w.extractLsb' 0 8 &&& 0xFE) sel = w := by
  have hlow : (w.extractLsb' 0 8).getLsbD 0 = sel := by rw [BitVec.getLsbD_extractLsb', h]; rfl
  have hhigh : BitVec.ofBool (w.getLsbD 15) ++ w.extractLsb' 8 7 = w.extractLsb' 8 8 := by
    rw [ofBool_getLsbD]
    exact BitVec.extractLsb'_append_extractLsb'_eq_extractLsb' rfl
  calc
    beamMaskWord (w.getLsbD 15) (w.extractLsb' 8 7) (w.extractLsb' 0 8 &&& 0xFE) sel
        = w.extractLsb' 8 8 ++ w.extractLsb' 0 8 := congrArg₂ (· ++ ·) hhigh (evenPart_or_selector sel hlow)
    _ = w := BitVec.extractLsb'_append_extractLsb' (w := 8)

theorem encode_decodeCopper (w1 w2 : Word) : encode (decodeCopper w1 w2) = bytesOfWord w1 ++ bytesOfWord w2 := by
  unfold decodeCopper
  split
  · rename_i hmove
    rw [moveOf, encode, moveWord_of_fields hmove]
  · rename_i hbeam
    have htarget := beamTargetWord_of_fields (Bool.eq_true_of_not_eq_false hbeam)
    split
    · rename_i hwait
      rw [waitOf, encode, htarget, beamMaskWord_of_fields hwait]
    · rename_i hskip
      rw [skipOf, encode, htarget, beamMaskWord_of_fields (Bool.eq_true_of_not_eq_false hskip)]

/-- The fields that the decoder masks are even. -/
theorem wf_decodeCopper (w1 w2 : Word) : (decodeCopper w1 w2).wf := by
  have hmask : ∀ {n : Nat} (x m : BitVec n), x &&& m &&& m = x &&& m := fun x m => by rw [BitVec.and_assoc, BitVec.and_self]
  unfold decodeCopper
  split
  · exact decide_eq_true (hmask _ _)
  · split <;> exact Bool.and_eq_true_iff.2 ⟨decide_eq_true (hmask _ _), decide_eq_true (hmask _ _)⟩

/-! ### Blitter modes (R205, R23) -/

section
variable (bsh : BitVec 4) (unused : BitVec 7) (efe ife fci desc : Bool)

theorem decodeBlitMode_areaModeWord :
    decodeBlitMode (areaModeWord bsh unused efe ife fci desc)
      = if efe then .bltFillExclusive bsh unused ife fci desc
        else if ife then .bltFillInclusive bsh unused fci desc
        else .bltArea bsh unused fci desc := by
  have hbsh : (areaModeWord bsh unused efe ife fci desc).extractLsb' 12 4 = bsh := by
    simp (disch := decide) only [areaModeWord, BitVec.extractLsb'_append_eq_of_le]
    exact BitVec.extractLsb'_eq_self
  have hunused : (areaModeWord bsh unused efe ife fci desc).extractLsb' 5 7 = unused := by
    simp (disch := decide) only [areaModeWord, BitVec.extractLsb'_append_eq_of_le]
    exact BitVec.extractLsb'_append_eq_right
  have hbits : (areaModeWord bsh unused efe ife fci desc).getLsbD 4 = efe
      ∧ (areaModeWord bsh unused efe ife fci desc).getLsbD 3 = ife
      ∧ (areaModeWord bsh unused efe ife fci desc).getLsbD 2 = fci
      ∧ (areaModeWord bsh unused efe ife fci desc).getLsbD 1 = desc
      ∧ (areaModeWord bsh unused efe ife fci desc).getLsbD 0 = false := by
    simp only [areaModeWord, BitVec.getLsbD_append]
    simp
  obtain ⟨h4, h3, h2, h1, h0⟩ := hbits
  rw [decodeBlitMode, hbsh, hunused, h4, h3, h2, h1, h0, if_neg (nomatch ·)]

end

section
variable (bsh : BitVec 4) (unusedHi : BitVec 5) (sign unusedLo sud sul aul sing : Bool)

theorem decodeBlitMode_lineModeWord :
    decodeBlitMode (lineModeWord bsh unusedHi sign unusedLo sud sul aul sing)
      = .bltLine bsh unusedHi sign unusedLo sud sul aul sing := by
  have hbsh : (lineModeWord bsh unusedHi sign unusedLo sud sul aul sing).extractLsb' 12 4 = bsh := by
    simp (disch := decide) only [lineModeWord, BitVec.extractLsb'_append_eq_of_le]
    exact BitVec.extractLsb'_eq_self
  have hunused : (lineModeWord bsh unusedHi sign unusedLo sud sul aul sing).extractLsb' 7 5 = unusedHi := by
    simp (disch := decide) only [lineModeWord, BitVec.extractLsb'_append_eq_of_le]
    exact BitVec.extractLsb'_append_eq_right
  have hhigh : (lineModeWord bsh unusedHi sign unusedLo sud sul aul sing).getLsbD 6 = sign
      ∧ (lineModeWord bsh unusedHi sign unusedLo sud sul aul sing).getLsbD 5 = unusedLo
      ∧ (lineModeWord bsh unusedHi sign unusedLo sud sul aul sing).getLsbD 4 = sud := by
    simp only [lineModeWord, BitVec.getLsbD_append]
    simp
  have hlow : (lineModeWord bsh unusedHi sign unusedLo sud sul aul sing).getLsbD 3 = sul
      ∧ (lineModeWord bsh unusedHi sign unusedLo sud sul aul sing).getLsbD 2 = aul
      ∧ (lineModeWord bsh unusedHi sign unusedLo sud sul aul sing).getLsbD 1 = sing
      ∧ (lineModeWord bsh unusedHi sign unusedLo sud sul aul sing).getLsbD 0 = true := by
    simp only [lineModeWord, BitVec.getLsbD_append]
    simp
  obtain ⟨h6, h5, h4⟩ := hhigh
  obtain ⟨h3, h2, h1, h0⟩ := hlow
  rw [decodeBlitMode, hbsh, hunused, h6, h5, h4, h3, h2, h1, h0, if_pos rfl]

end

section
variable {c : Word}

/-- With the LINE bit clear, the fields of an area mode are all of the word. -/
theorem areaModeWord_of_fields (h : c.getLsbD 0 = false) :
    areaModeWord (c.extractLsb' 12 4) (c.extractLsb' 5 7) (c.getLsbD 4) (c.getLsbD 3) (c.getLsbD 2) (c.getLsbD 1) = c := by
  have hline : (0 : BitVec 1) = BitVec.ofBool (c.getLsbD 0) := by rw [h]; rfl
  have htop : c.extractLsb' 12 4 ++ c.extractLsb' 5 7 = c.extractLsb' 5 11 :=
    BitVec.extractLsb'_append_extractLsb'_eq_extractLsb' rfl
  rw [areaModeWord, hline, htop, field_append_bit, field_append_bit, field_append_bit, field_append_bit, field_append_bit]
  exact BitVec.extractLsb'_eq_self

/-- With the LINE bit set, so are those of line mode. -/
theorem lineModeWord_of_fields (h : c.getLsbD 0) :
    lineModeWord (c.extractLsb' 12 4) (c.extractLsb' 7 5) (c.getLsbD 6) (c.getLsbD 5) (c.getLsbD 4) (c.getLsbD 3) (c.getLsbD 2)
      (c.getLsbD 1) = c := by
  have hline : (1 : BitVec 1) = BitVec.ofBool (c.getLsbD 0) := by rw [h]; rfl
  have htop : c.extractLsb' 12 4 ++ c.extractLsb' 7 5 = c.extractLsb' 7 9 :=
    BitVec.extractLsb'_append_extractLsb'_eq_extractLsb' rfl
  rw [lineModeWord, hline, htop, field_append_bit, field_append_bit, field_append_bit, field_append_bit, field_append_bit,
    field_append_bit, field_append_bit]
  exact BitVec.extractLsb'_eq_self

end

theorem encode_decodeBlitMode (c : Word) : encode (decodeBlitMode c) = bytesOfWord c := by
  unfold decodeBlitMode
  split
  · rename_i hline
    rw [encode, lineModeWord_of_fields hline]
  · rename_i hline
    have harea := areaModeWord_of_fields (Bool.eq_false_iff.2 hline)
    split
    · rename_i hefe
      rw [hefe] at harea
      rw [encode, harea]
    · rename_i hefe
      rw [Bool.eq_false_iff.2 hefe] at harea
      split
      · rename_i hife
        rw [hife] at harea
        rw [encode, harea]
      · rename_i hife
        rw [Bool.eq_false_iff.2 hife] at harea
        rw [encode, harea]

theorem wf_decodeBlitMode (c : Word) : (decodeBlitMode c).wf := by
  unfold decodeBlitMode
  split
  · rfl
  · split
    · rfl
    · split <;> rfl

/-! ### The round trips -/

/-- Settles O1: the words of a copper instruction or a blitter mode decode to its fields, and each slot is looked up. -/
theorem decodeOfEncodedInstruction : Obligations.DecodeOfEncodedInstruction := by
  unfold Obligations.DecodeOfEncodedInstruction
  intro i hwf
  cases i with
  | move unused off data => rw [encode, decode_copperWords, decodeCopper_moveWord data (of_decide_eq_true hwf)]
  | wait vp hp bfd ve he | skip vp hp bfd ve he =>
    obtain ⟨hhp, hhe⟩ := Bool.and_eq_true_iff.1 hwf
    rw [encode, decode_copperWords,
      decodeCopper_beamWords vp bfd _ ve (of_decide_eq_true hhp) (of_decide_eq_true hhe)]
    rfl
  | bltArea | bltFillInclusive | bltFillExclusive =>
    rw [encode, decode_blitWord, decodeBlitMode_areaModeWord]
    rfl
  | bltLine => rw [encode, decode_blitWord, decodeBlitMode_lineModeWord]
  | _ => rfl

/-- Each row of the slot map is encoded by its colclock (R98). -/
theorem slotRows_encode : ∀ r ∈ slotRows, r.2.wf ∧ encode r.2 = [r.1] := by decide

/-- Settles O2: a colclock that decodes is that of a row of the slot map, and every other word is made of its fields. -/
theorem encodeOfDecodedBytes : Obligations.EncodeOfDecodedBytes := by
  unfold Obligations.EncodeOfDecodedBytes
  intro bytes i h
  unfold decode at h
  split at h
  · rename_i cc
    split at h
    · rename_i j hslot
      cases h
      exact slotRows_encode _ (Machine.mem_of_findSlot hslot)
    · cases h
  · rename_i b1 b0
    cases h
    exact ⟨wf_decodeBlitMode _, by rw [encode_decodeBlitMode, bytesOfWord_wordOfBytes]⟩
  · rename_i b3 b2 b1 b0
    cases h
    exact ⟨wf_decodeCopper _ _, by rw [encode_decodeCopper, bytesOfWord_wordOfBytes, bytesOfWord_wordOfBytes]; rfl⟩
  · cases h

/-- Settles O5: the decoder is evaluated on each word. -/
theorem wordsWrittenOutFromTheSpecDecode : Obligations.WordsWrittenOutFromTheSpecDecode := by
  unfold Obligations.WordsWrittenOutFromTheSpecDecode
  and_intros <;> rfl

end Sys2Proof
end

section
/-! Reset (R400, R401): what the pins of the CIAs read after it, and that the state after it meets the invariant. -/

namespace Sys2Proof.Machine

/-! ### Pins after a reset -/

/-- The bits of port A of CIA A below the status lines are driven by nothing (R296). -/
theorem driveStatus_undriven (s : State) {b : Nat} (h : b < 2) : (driveStatus s).getLsbD b = true := by
  have hb : b = 0 ∨ b = 1 := by omega
  rcases hb with rfl | rfl <;> simp only [driveStatus, getLsbD_setBit, Nat.reduceLT] <;> rfl

/-- A pin of port A of CIA A that is an input below the status lines reads 1 (R354). -/
theorem portAIn_a_undriven {s : State} {b : Fin 8} (hb : b.val < 2) (hddr : s.ciaA.ddra.getLsbD b = false) :
    (portAIn s .a).getLsbD b = true := by
  have hpin : (portAIn s .a).getLsbD b = (driveStatus s).getLsbD b := by
    rw [portAIn, getLsbD_pinsOf]
    exact if_neg (Bool.eq_false_iff.1 hddr)
  rw [hpin, driveStatus_undriven s hb]

/-- While port B of CIA B has only inputs, every select line is high and no drive is selected (R291, R355). -/
theorem driveSelected_of_inputs {s : State} (h : s.ciaB.ddrb = 0) (d : Fin 4) : driveSelected s d = false := by
  have hline : (driveLines s).getLsbD (3 + d.val) = true := by
    have hpin := getLsbD_pinsOf s.ciaB.prb 0 0xFF ⟨3 + d.val, by omega⟩
    rw [BitVec.ofNat_eq_ofNat, BitVec.getLsbD_zero, if_neg (nomatch ·)] at hpin
    rw [driveLines, h]
    exact hpin.trans (getLsbD_undriven _)
  rw [driveSelected, hline]
  exact Bool.and_false _

/-! ### The invariant after a reset -/

theorem ciaOk_initial : CiaOk Cia.initial := ⟨BitVec.getLsbD_zero, BitVec.getLsbD_zero⟩

theorem default_meets_constraints : Config.default.wf := by decide +kernel

section
variable {k : Config} {mem : Memory} {media : Vector (Option Medium) 4} {host : List HostOp}

theorem afterReset_color (i : Fin 32) : (State.afterReset k mem media host).color[i] = 0 := by
  simp [State.afterReset]

theorem afterReset_spr (n : Fin 8) : (State.afterReset k mem media host).spr[n] = Sprite.initial := by
  simp [State.afterReset]

theorem afterReset_aud (n : Fin 4) : (State.afterReset k mem media host).aud[n] = AudioChan.initial := by
  simp [State.afterReset]

theorem afterReset_drive (d : Fin 4) : (State.afterReset k mem media host).drives[d] = Drive.initial k media[d] := by
  simp [State.afterReset]

/-- Reset puts every block but the memories in order. -/
theorem inv_afterReset (hk : k.wf) (hmem : MemoryInv (State.afterReset k mem media host)) :
    (State.afterReset k mem media host).Inv where
  cfg := hk
  memory := hmem
  beam := beamInv_iff.2 ⟨Config.line_nonempty hk, (Config.lines_bounds hk _).1⟩
  copper := copperInv_iff.2 ⟨rfl, fun hskip => nomatch hskip⟩
  blitter := blitterInv_iff.2 ⟨rfl, fun hbusy => nomatch hbusy⟩
  control := controlInv_iff.2 ⟨⟨Nat.zero_le _, Nat.zero_le _⟩, show DmaconOk 0 from BitVec.zero_and⟩
  audio := audioInv_iff.2 fun n => by
    rw [afterReset_aud]
    exact ⟨Nat.zero_le _, fun _ => rfl⟩
  disk := diskInv_iff.2 ⟨⟨(Config.wf_track hk).2.1, rfl⟩, fun hactive => nomatch hactive⟩
  drive := driveInv_iff.2 fun d => by
    rw [afterReset_drive]
    exact ⟨Nat.zero_le _, Config.wf_revolution hk, Nat.le_refl _⟩
  cia := ciaInv_iff.2 ⟨Nat.zero_lt_succ 9, ciaOk_initial, ciaOk_initial⟩

end

/-- At power-on nothing is in memory, in a drive or in the queue. -/
theorem memoryInv_reset : MemoryInv State.reset where
  memWf := rfl
  memBelow := rfl
  bufWf := rfl
  bufBelow := rfl
  romWf := rfl
  romBelow := rfl
  mediaOk := fun d => by
    rw [State.reset, afterReset_drive, Drive.initial]
    simp [mediumOk]
  hostOk := rfl

/-- Settles O57: each block is set to its reset value, the CIAs' ports to inputs, and each value is inside its bounds. -/
theorem resetZeroesTheChipAndKeepsMemoryAndMedia : Obligations.ResetZeroesTheChipAndKeepsMemoryAndMedia := by
  unfold Obligations.ResetZeroesTheChipAndKeepsMemoryAndMedia
  refine ⟨fun s => ⟨s.resetAgain, rfl, rfl, rfl, rfl, rfl, rfl, rfl, rfl, rfl, rfl, rfl, afterReset_color, afterReset_spr, rfl, rfl,
    afterReset_aud, rfl, fun d => ?_, rfl, rfl, ?_, ?_, driveSelected_of_inputs rfl⟩, rfl,
    inv_afterReset default_meets_constraints memoryInv_reset⟩
  · rw [State.resetAgain, afterReset_drive, Drive.initial]
    simp
  · exact portAIn_a_undriven (b := 0) (by decide) BitVec.getLsbD_zero
  · exact portAIn_a_undriven (b := 1) (by decide) BitVec.getLsbD_zero

end Sys2Proof.Machine
end

section
/-! MOVE while the blitter is stopped (R66, R246): every register write is made, and what none of them reaches. -/

namespace Sys2Proof.Machine

/-- From `s` to `t` only the blocks that the registers live in change, and neither the copper's program counter nor the words it
has latched. -/
structure RegistersWritten (s t : State) : Prop where
  blocks : t = { s with
    dmacon := t.dmacon, irq := t.irq, bpl := t.bpl, color := t.color, spr := t.spr, blt := t.blt, cop := t.cop
    aud := t.aud, adkcon := t.adkcon, dsk := t.dsk, drives := t.drives, out := t.out }
  pc : t.cop.pc = s.cop.pc
  ir1 : t.cop.ir1 = s.cop.ir1
  ir2 : t.cop.ir2 = s.cop.ir2

section
variable {s : State} (hst : s.blt.st = .stopped) (hbusy : s.blt.busy = false)
include hst hbusy

/-- A stopped blitter refuses no register write (R203, U3). -/
theorem regWriteReg_completes (r : Reg) (v : Word) : ∃ t, regWriteReg r v s = .next t ∧ RegistersWritten s t := by
  cases r with
  | dsklen =>
    refine ⟨_, rfl, ?_⟩
    rw [writeDsklen_touches]
    exact ⟨rfl, rfl, rfl, rfl⟩
  | bltsize => exact ⟨_, writeBltsize_of_stopped hst v, rfl, rfl, rfl, rfl⟩
  | bltcon0 | bltcon1 | bltafwm | bltalwm | bltpth | bltptl | bltmod | bltcdat | bltbdat | bltadat =>
    rw [regWriteReg, writeBlitter_of_not_busy hbusy]
    exact ⟨_, rfl, rfl, rfl, rfl, rfl⟩
  | _ => exact ⟨_, rfl, rfl, rfl, rfl, rfl⟩

theorem regWrite_completes (off v : Word) : ∃ t, regWrite off v s = .next t ∧ RegistersWritten s t := by
  unfold regWrite
  split
  · exact regWriteReg_completes hst hbusy _ v
  · exact ⟨s, rfl, rfl, rfl, rfl, rfl⟩

theorem execMove_completes (off data : Word) : ∃ t, execMove off data s = .next t ∧ RegistersWritten s t := by
  unfold execMove
  split
  · exact ⟨_, rfl, rfl, rfl, rfl, rfl⟩
  · split
    · exact ⟨_, rfl, rfl, rfl, rfl, rfl⟩
    · exact regWrite_completes hst hbusy off data

end

/-- Settles O11: behind the protection and the skip mark a MOVE is a register write, which a stopped blitter lets through. -/
theorem moveCompletesWhileTheBlitterIsStopped : Obligations.MoveCompletesWhileTheBlitterIsStopped := by
  unfold Obligations.MoveCompletesWhileTheBlitterIsStopped
  intro unused off data s hst hbusy
  obtain ⟨t, ht, hblocks, hpc, hir1, hir2⟩ := execMove_completes hst hbusy off data
  have hmem := congrArg State.mem hblocks
  exact ⟨t, ht, fun b => congrArg (Mem.read · b) hmem, hblocks, hpc, hir1, hir2⟩

end Sys2Proof.Machine
end

section
/-! The step (R120, log 4): the host's next call, and the tick whose slot goes to a given consumer, as the meaning of the row
that the consumer executes (R122, R131, R132, R98). -/

namespace Sys2Proof.Machine

/-! ### The next call -/

theorem step_of_empty {s : State} (h : s.host = []) : step s = tick false s := by rw [step, h]

theorem step_of_call {s : State} {op : HostOp} {rest : List HostOp} (h : s.host = op :: rest) :
    step s = hostCall op (s.withHost rest) := by rw [step, h]

/-- Settles O9: the step reads the queue, and a tick is not given the program counter. -/
theorem stepMakesTheNextHostCall : Obligations.StepMakesTheNextHostCall := by
  unfold Obligations.StepMakesTheNextHostCall
  exact ⟨fun _ => step_of_empty, fun _ _ _ => step_of_call, fun _ _ _ _ _ => rfl⟩

theorem step_of_tickCall {s s0 : State} {wants : Bool} (h : tickCall s = some (wants, s0)) : step s = tick wants s0 := by
  unfold tickCall at h
  split at h
  · rename_i hempty
    cases h
    exact step_of_empty hempty
  · rename_i hcall
    cases h
    exact step_of_call hcall
  · cases h

/-! ### The turn that the chain comes to -/

theorem andThen_eq_self {u : Prop} {P : State → Prop} {r : Result} {f : State → Result} (h : Ends u P r)
    (hf : ∀ t, P t → f t = .next t) : andThen r f = r := by
  cases h with
  | next ht => exact hf _ ht
  | fault | refused => rfl

section
variable {s : State} (hs : s.out.bus = .none)
include hs

theorem takeTurns_unclaimed (turn : State → Result) (rest : List (State → Result)) :
    takeTurns (turn :: rest) s = andThen (turn s) (takeTurns rest) := by
  rw [takeTurns, ifUnclaimed_unclaimed (claimed_eq_false hs)]

/-- A consumer that requests the slot claims it, and no later turn is reached (R122). -/
theorem Consumer.takeTurns_of_req {o : BusOwner} {req : State → Bool} {Left : State → State → Prop} {turn : State → Result}
    (h : Consumer o req Left turn) (ho : o ≠ .none) (hreq : req s) (rest : List (State → Result)) :
    takeTurns (turn :: rest) s = turn s := by
  rw [takeTurns_unclaimed hs]
  refine andThen_eq_self (h.claims s hreq) fun t ht => takeTurns_claimed ?_ rest
  rw [ht.claimed, bne_iff_ne]
  exact ho

/-- Of a consumer that acts on its request alone, the turn is taken or passed over. -/
theorem Consumer.takeTurns_eq {o : BusOwner} {req : State → Bool} {Left : State → State → Prop} {turn : State → Result}
    (h : Consumer o req Left turn) (ho : o ≠ .none) (hturn : ∃ r, turn s = if req s then r else .next s)
    (rest : List (State → Result)) :
    takeTurns (turn :: rest) s = if req s then turn s else takeTurns rest s := by
  split
  · rename_i hreq
    exact h.takeTurns_of_req hs ho hreq rest
  · rename_i hreq
    obtain ⟨r, hr⟩ := hturn
    rw [takeTurns_unclaimed hs, hr, if_neg hreq, andThen_next]

end

/-- The turns that act when the chain grants the slot to `o`: that of `o` alone, but with a copper that makes no request the
copper's unclaimed turn and then the blitter's (`chain_eq_turnsOf`). -/
def turnsOf (o : BusOwner) (s : State) : Result :=
  match o with
  | .refresh => fixedTurn .refresh s
  | .disk => fixedTurn .disk s
  | .audio => fixedTurn .audio s
  | .bitplane => bitplaneTurn s
  | .sprite => fixedTurn .sprite s
  | .copper => copperTurn s
  | .blitter | .none => andThen (copperTurn s) blitterTurn

/-- Without a request the copper's turn changes the copper alone, and reads no memory (R242 to R244). -/
theorem copperTurn_of_noRequest {s : State} (h : reqCopper s = false) : ∃ c, copperTurn s = .next (s.withCop c) := by
  cases hon : s.dmaOn dmaCop with
  | false => exact ⟨s.cop, copperTurn_off hon⟩
  | true =>
    have hblocked : s.cop.st = .vblank ∨ s.cop.st = .readInst → copperSlotOk s = false := by
      rintro (hst | hst) <;> simpa [reqCopper, hon, hst] using h
    cases hst : s.cop.st with
    | halted => exact ⟨s.cop, copperTurn_halted hon hst⟩
    | vblank =>
      have hrestart : copperSlotOk (copperRestart s) = false := hblocked (.inl hst)
      exact ⟨_, (copperTurn_vblank hon hst).trans (copperFetch_blocked hrestart)⟩
    | readInst => exact ⟨s.cop, (copperTurn_readInst hon hst).trans (copperFetch_blocked (hblocked (.inr hst)))⟩
    | needFreeCycle => exact ⟨_, copperTurn_needFreeCycle hon hst⟩
    | wait =>
      have hturn := (copperTurn_wait hon hst).trans (execWait_wait _ _ _ _ _ hst)
      split at hturn
      · exact ⟨_, hturn⟩
      · exact ⟨s.cop, hturn⟩
    | skip => exact ⟨_, (copperTurn_skip hon hst).trans (execSkip_skip _ _ _ _ _ hst)⟩
    | jmpDelay1 => exact ⟨_, copperTurn_jmpDelay1 hon hst⟩
    | jmpDelay2 => exact ⟨_, copperTurn_jmpDelay2 hon hst⟩

section
variable {s : State} (hs : s.out.bus = .none)
include hs

theorem takeTurns_copper_blitter :
    takeTurns [copperTurn, blitterTurn] s = if reqCopper s then copperTurn s else andThen (copperTurn s) blitterTurn := by
  split
  · rename_i hreq
    exact copper_consumer.takeTurns_of_req hs (by decide) hreq _
  · rename_i hreq
    obtain ⟨c, hc⟩ := copperTurn_of_noRequest (Bool.eq_false_iff.2 hreq)
    have hs' : (s.withCop c).out.bus = .none := hs
    rw [takeTurns_unclaimed hs, hc, andThen_next, andThen_next, takeTurns_unclaimed hs']
    exact andThen_next_right _

/-- What the chain does is what the consumer that it grants does (R122, R133). -/
theorem chain_eq_turnsOf : chain s = turnsOf (granted s) s := by
  obtain ⟨n, haudio⟩ := fixedTurn_audio s
  obtain ⟨p, hbitplane⟩ := bitplaneTurn_eq s
  obtain ⟨m, k, hsprite⟩ := fixedTurn_sprite s
  have hrefresh : ∃ r, fixedTurn .refresh s = if reqRefresh s then r else .next s :=
    ⟨.next (grant .refresh 0 0 s), by rw [fixedTurn_refresh]; split <;> rfl⟩
  rw [chain_eq_takeTurns hs, turnsAfterRefresh, refresh_consumer.takeTurns_eq hs (by decide) hrefresh,
    disk_consumer.takeTurns_eq hs (by decide) ⟨_, fixedTurn_disk s⟩, audio_consumer.takeTurns_eq hs (by decide) ⟨_, haudio⟩,
    bitplane_consumer.takeTurns_eq hs (by decide) ⟨_, hbitplane⟩, sprite_consumer.takeTurns_eq hs (by decide) ⟨_, hsprite⟩,
    takeTurns_copper_blitter hs, granted, prio7]
  split_ifs <;> rfl

end

section
variable {s : State}

theorem reqCopper_of_granted (h : granted s = .copper) : reqCopper s := by
  unfold granted prio7 at h
  split_ifs at h
  assumption

/-- The blitter is granted the slot on its request, once the copper has made none. -/
theorem reqs_of_granted_blitter (h : granted s = .blitter) : reqCopper s = false ∧ reqBlitter s := by
  unfold granted prio7 at h
  split_ifs at h
  exact ⟨Bool.eq_false_iff.2 ‹_›, ‹_›⟩

end

theorem slotEntry_bus (s : State) : (slotEntry s).out.bus = .none := congrArg Slot.bus (slotEntry_slot s)

/-- A step that is an arbitration tick is the turn of the consumer granted the slot, and then the rest of the tick (R120). -/
theorem step_of_arb {s s0 : State} {wants : Bool} (h : tickCall s = some (wants, s0)) (harb : s0.isArbTick) :
    step s = andThen (turnsOf (granted (slotEntry s0)) (slotEntry s0)) fun u => .next (finishTick wants s0 u) := by
  rw [step_of_tickCall h, tick_of_arb harb, chain_eq_turnsOf (slotEntry_bus s0)]

/-! ### The rows executed -/

theorem readBytes_two (m : Memory) (a : Nat) : Mem.readBytes m a 2 = bytesOfWord (Mem.readWord m a) :=
  (bytesOfWord_wordOfBytes (Mem.read m a) (Mem.read m (a + 1))).symm

/-- Granted the slot, a copper that has a first word latched fetches the second and executes the instruction (R244, R245). -/
theorem copperTurn_secondWord {s : State} (hreq : reqCopper s) (hst : s.cop.st = .readInst) (hsecond : s.cop.haveIr1)
    (hrange : dmaInRange s s.cop.pc) (hfits : ptrFits s.cop.pc 2) :
    copperTurn s = exec (decodeCopper s.cop.ir1 (Mem.readWord s.mem (dmaAddr s s.cop.pc)))
      (grant .copper s.cop.pc (Mem.readWord s.mem (dmaAddr s s.cop.pc))
        { s with cop := { s.cop with
            pc := s.cop.pc + 2, ir2 := Mem.readWord s.mem (dmaAddr s s.cop.pc), haveIr1 := false } }) := by
  simp only [reqCopper, Bool.and_eq_true] at hreq
  obtain ⟨⟨hon, -⟩, hok⟩ := hreq
  rw [copperTurn_readInst hon hst, copperFetch_of_fits hok hrange hfits]
  exact if_pos hsecond

/-- Settles O6: granted the slot the copper fetches the second word, and the two words decode as their bytes do. -/
theorem stepRunsTheFetchedCopperInstruction : Obligations.StepRunsTheFetchedCopperInstruction := by
  unfold Obligations.StepRunsTheFetchedCopperInstruction
  intro s s0 wants i hcall harb hgrant hst hsecond hrange hfits hdecode e w d
  have hinstr : decodeCopper e.cop.ir1 w = i := by
    rw [readBytes_two, decode_copperWords] at hdecode
    exact Except.ok.inj hdecode
  have hturn := copperTurn_secondWord (reqCopper_of_granted hgrant) hst hsecond hrange hfits
  rw [step_of_arb hcall harb, hgrant, turnsOf, hturn, ← hinstr]

theorem decodeSlot_of_decode {cc : Byte} {i : Instr} (h : decode [cc] = .ok i) : decodeSlot cc = some i := by
  rw [decode] at h
  split at h
  · rename_i j hslot
    cases h
    exact hslot
  · cases h

theorem slotEntry_beam (s : State) : (slotEntry s).beam = s.beam := by
  rw [slotEntry, housekeeping_touches, State.withBlt_beam, State.withAud_beam, State.withBpl_beam]
  rfl

/-- The owner of a fixed slot acts by the row at the colclock (R98). -/
theorem slotRows_turnsOf : ∀ r ∈ slotRows, ∀ s, turnsOf (ownerOf r.2) s = fixedTurn (ownerOf r.2) s := by
  have hfixed : ∀ o ∈ [BusOwner.refresh, .disk, .audio, .sprite], ∀ s, turnsOf o s = fixedTurn o s := by
    intro o ho s
    fin_cases ho <;> rfl
  have howner : ∀ r ∈ slotRows, ownerOf r.2 ∈ [BusOwner.refresh, .disk, .audio, .sprite] := by decide
  exact fun r hr => hfixed _ (howner r hr)

/-- Settles O7: the row that the colclock decodes to is in the slot map, and its owner's turn executes it. -/
theorem stepRunsTheSlotRowOfTheColclock : Obligations.StepRunsTheSlotRowOfTheColclock := by
  unfold Obligations.StepRunsTheSlotRowOfTheColclock
  intro s s0 wants i hcall harb hcc hdecode hgrant
  have hslot := decodeSlot_of_decode hdecode
  have hfixed : fixedSlot (slotEntry s0) = some i := by
    rw [fixedSlot, cc_low, cc_toNat, slotEntry_beam, if_pos hcc, hslot]
  have hturn : fixedTurn (ownerOf i) (slotEntry s0) = exec i (slotEntry s0) := by
    rw [fixedTurn, slotOf, hfixed, Option.filter_some, beq_self_eq_true, if_pos rfl]
  rw [step_of_arb hcall harb, hgrant, slotRows_turnsOf _ (mem_of_findSlot hslot), hturn]

theorem blitterTurn_running {s : State} (hon : s.dmaOn dmaBlt) (hrun : s.blt.st = .running) :
    blitterTurn s = exec (decodeBlitMode s.blt.con1) s := by
  rw [blitterTurn, if_pos hon, hrun]

/-- Settles O8: the copper's turn makes no claim and changes the copper alone, so the blitter runs as it stood. -/
theorem stepRunsTheBlitterModeOfItsControlWord : Obligations.StepRunsTheBlitterModeOfItsControlWord := by
  unfold Obligations.StepRunsTheBlitterModeOfItsControlWord
  intro s s0 wants i hcall harb hgrant hrun hdecode
  obtain ⟨hnone, hreq⟩ := reqs_of_granted_blitter hgrant
  simp only [reqBlitter, Bool.and_eq_true] at hreq
  obtain ⟨⟨hon, -⟩, -⟩ := hreq
  obtain ⟨c, hc⟩ := copperTurn_of_noRequest hnone
  have hmode : decodeBlitMode (slotEntry s0).blt.con1 = i := by
    rw [decode_blitWord] at hdecode
    exact Except.ok.inj hdecode
  have hturn : blitterTurn ((slotEntry s0).withCop c) = exec i ((slotEntry s0).withCop c) := by
    rw [← hmode]
    exact blitterTurn_running hon hrun
  refine ⟨c, hc, ?_⟩
  rw [step_of_arb hcall harb, hgrant, turnsOf, hc, andThen_next, hturn]
  rfl

end Sys2Proof.Machine
end
